-- ==== Sys2Proof/Word.lean ====
section
/-! DEFINITION. The word types of the block (00_scope.md R11, R12; 30_encoding.md R70). -/

namespace Sys2Proof

/-- A byte, 0x00..0xFF (R12). -/
abbrev Byte := BitVec 8

/-- A parameter address: 32 opaque bits (R11, R35). -/
abbrev ParamAddr := BitVec 32

/-- A host request word (R70). -/
abbrev RequestWord := BitVec 64

/-- A host response word (R72). -/
abbrev ResponseWord := BitVec 64

/-- The wire form of one outbound message, index 0 first on the wire (R13, R18). -/
abbrev Frame := List Byte

/-- A raw inbound packet: what one `Receive()` returns (R18, R82). -/
abbrev Packet := List Byte

end Sys2Proof
end

