-- ==== Sys2Proof/Config.lean ====
section
/-! DEFINITION. The implementation parameters (00_scope.md R9, 10_state.md R30), times being natural
numbers of milliseconds (R14; notes/assumptions/14.md), and the fixed
constants (R10). The parameters are static: State carries them and no step writes them (R30). -/

namespace Sys2Proof

/-- WIRE_ID: the six identifier bytes at frame positions 1 to 6 (R9, R78). -/
structure WireId where
  id1 : Byte
  id2 : Byte
  id3 : Byte
  id4 : Byte
  id5 : Byte
  id6 : Byte
  deriving DecidableEq, Repr

/-- The six bytes in wire order. -/
def WireId.bytes (i : WireId) : List Byte := [i.id1, i.id2, i.id3, i.id4, i.id5, i.id6]

/-- The parameters of R9, each under the spec's own name. -/
structure Config where
  /-- QUEUE_N: queue capacity. -/
  queueN : Nat
  /-- MAX_PAYLOAD: largest command length. -/
  maxPayload : Nat
  /-- WRITE_INTERVAL: pacing after a Write is sent (ms). -/
  writeInterval : Nat
  /-- READ_INTERVAL: pacing after a Read is sent (ms). -/
  readInterval : Nat
  /-- RECEIVE_INTERVAL: pacing after a frame is decoded (ms). -/
  receiveInterval : Nat
  /-- INIT_DELAY: wait after the edit-mode write (ms). -/
  initDelay : Nat
  /-- HS_DELAY: delay after each HANDSHAKE frame (ms). -/
  hsDelay : Nat
  /-- RESPONSE_TIMEOUT: exported only; no operation reads it (R176). -/
  responseTimeout : Nat
  /-- WIRE_ID (OPEN in the source). -/
  wireId : WireId
  /-- TIME_W: width of the time input and of next_time (OPEN in the source). -/
  timeW : Nat
  /-- RX_MAX_BYTES: largest raw inbound packet. -/
  rxMaxBytes : Nat
  /-- VALIDATE_RX_CHECKSUM: check the inbound checksum (R118). -/
  validateRxChecksum : Bool
  deriving DecidableEq, Repr

/-- Every identifier byte is a 7-bit data byte (R9, R78). -/
abbrev WireId.Legal (i : WireId) : Prop := ∀ b ∈ i.bytes, b.toNat ≤ 0x7F

/-- The legal values of R9's table. -/
structure Config.Legal (c : Config) : Prop where
  queueN_pos : 1 ≤ c.queueN
  queueN_le : c.queueN ≤ 255
  maxPayload_ge : 4 ≤ c.maxPayload
  maxPayload_le : c.maxPayload ≤ 255
  writeInterval_le : c.writeInterval ≤ 65535
  readInterval_le : c.readInterval ≤ 65535
  receiveInterval_le : c.receiveInterval ≤ 65535
  initDelay_le : c.initDelay ≤ 65535
  hsDelay_le : c.hsDelay ≤ 65535
  responseTimeout_le : c.responseTimeout ≤ 65535
  wireId_legal : c.wireId.Legal
  timeW_ge : 17 ≤ c.timeW
  timeW_le : c.timeW ≤ 64
  rxMaxBytes_ge : 4 ≤ c.rxMaxBytes
  rxMaxBytes_le : c.rxMaxBytes ≤ 1024

/-- WIRE_ID at `State.reset`. DESIGN CHOICE, unsafe (notes/assumptions/4.md): the spec leaves it OPEN. -/
def Config.resetWireId : WireId := ⟨0x00, 0x00, 0x00, 0x00, 0x00, 0x00⟩

/-- The values if the integrator supplies none (R9, R30). `wireId` and `timeW` have no value in the
spec: DESIGN CHOICE, unsafe (notes/assumptions/4.md and 5.md). -/
def Config.defaults : Config where
  queueN := 20
  maxPayload := 4
  writeInterval := 0
  readInterval := 25
  receiveInterval := 0
  initDelay := 60
  hsDelay := 4
  responseTimeout := 200
  wireId := Config.resetWireId
  timeW := 32
  rxMaxBytes := 64
  validateRxChecksum := false

/-- MAX_WAIT, the longest configured interval (R154). -/
def Config.maxWait (c : Config) : Nat :=
  max c.hsDelay (max c.initDelay (max c.receiveInterval (max c.readInterval c.writeInterval)))

/-- The largest value of a TIME_W-bit register, 2^TIME_W - 1 (R36 (e), R168). -/
def Config.maxTime (c : Config) : Nat := 2 ^ c.timeW - 1

/-! ### The fixed constants (R10) -/

/-- START. -/
def startByte : Byte := 0xF0

/-- END. -/
def endByte : Byte := 0xF7

/-- ACT_WRITE. -/
def actWrite : Byte := 0x12

/-- ACT_READ. -/
def actRead : Byte := 0x11

/-- EDIT_ADDR. -/
def editAddr : ParamAddr := 0x7F000001

/-- EDIT_VALUE. -/
def editValue : Byte := 0x01

/-- READ_LEN. -/
def readLen : BitVec 8 := 4

/-- HANDSHAKE, the 15-byte literal (R10, R80). -/
def handshakeFrame : Frame :=
  [0xF0, 0x7E, 0x00, 0x06, 0x02, 0x41, 0x3B, 0x03, 0x00, 0x00, 0x00, 0x00, 0x00, 0x00, 0xF7]

end Sys2Proof
end

