-- ==== Sys2Proof/Syntax.lean ====
section
/-! DEFINITION. The instructions: one constructor per row of the opcode table, in its three formats
(30_encoding.md R73, R77 to R83). Host requests are the block's operations (R3); the outbound frames
and the inbound groups are the Frame Codec's encodings (notes/assumptions/1.md). -/

namespace Sys2Proof

/-- The rows of the opcode table. -/
inductive Instr where
  /-- NOP, the idle request (R141). -/
  | nop
  /-- WRITE: enqueue a write command (R138). -/
  | write (addr : ParamAddr) (value : Byte) (len : BitVec 8)
  /-- READ: enqueue a read request with a probe byte (R139). -/
  | read (addr : ParamAddr) (probe : Byte)
  /-- POLL: one dispatch cycle (R154). -/
  | poll
  /-- QUERY_EMPTY (R140). -/
  | queryEmpty
  /-- Reserved OP 0x5; `rest` is request bits 63:4, which no rule reads (R75). -/
  | reserved5 (rest : BitVec 60)
  /-- Reserved OP 0x6; `rest` is request bits 63:4, which no rule reads (R75). -/
  | reserved6 (rest : BitVec 60)
  /-- Reserved OP 0x7; `rest` is request bits 63:4, which no rule reads (R75). -/
  | reserved7 (rest : BitVec 60)
  /-- Reserved OP 0x8; `rest` is request bits 63:4, which no rule reads (R75). -/
  | reserved8 (rest : BitVec 60)
  /-- Reserved OP 0x9; `rest` is request bits 63:4, which no rule reads (R75). -/
  | reserved9 (rest : BitVec 60)
  /-- Reserved OP 0xA; `rest` is request bits 63:4, which no rule reads (R75). -/
  | reservedA (rest : BitVec 60)
  /-- Reserved OP 0xB; `rest` is request bits 63:4, which no rule reads (R75). -/
  | reservedB (rest : BitVec 60)
  /-- Reserved OP 0xC; `rest` is request bits 63:4, which no rule reads (R75). -/
  | reservedC (rest : BitVec 60)
  /-- Reserved OP 0xD; `rest` is request bits 63:4, which no rule reads (R75). -/
  | reservedD (rest : BitVec 60)
  /-- Reserved OP 0xE; `rest` is request bits 63:4, which no rule reads (R75). -/
  | reservedE (rest : BitVec 60)
  /-- Reserved OP 0xF; `rest` is request bits 63:4, which no rule reads (R75). -/
  | reservedF (rest : BitVec 60)
  /-- WRITE_FRAME: the frame of a Write (R77, R100). -/
  | writeFrame (addr : ParamAddr) (value : Byte) (len : BitVec 8)
  /-- READ_FRAME: the frame of a Read, payload length 4 (R77, R100). -/
  | readFrame (addr : ParamAddr) (probe : Byte)
  /-- HANDSHAKE: the fixed literal (R80). -/
  | handshake
  /-- EDIT_FRAME: the edit-mode frame (R81). -/
  | editFrame
  /-- CIN_4: a group that takes data bytes 1 to 3 (R83); `cable` is ignored (R82). -/
  | cin4 (cable : BitVec 4) (d1 d2 d3 : Byte)
  /-- CIN_5: a group that takes data byte 1 (R83); `cable` is ignored (R82). -/
  | cin5 (cable : BitVec 4) (d1 d2 d3 : Byte)
  /-- CIN_6: a group that takes data bytes 1 and 2 (R83); `cable` is ignored (R82). -/
  | cin6 (cable : BitVec 4) (d1 d2 d3 : Byte)
  /-- CIN_7: a group that takes data bytes 1 to 3 (R83); `cable` is ignored (R82). -/
  | cin7 (cable : BitVec 4) (d1 d2 d3 : Byte)
  /-- CIN_0_TERMINATE: a group that ends reassembly (R83, R112). -/
  | cin0Terminate (cable : BitVec 4) (d1 d2 d3 : Byte)
  /-- CIN_1_TERMINATE: a group that ends reassembly (R83, R112). -/
  | cin1Terminate (cable : BitVec 4) (d1 d2 d3 : Byte)
  /-- CIN_2_TERMINATE: a group that ends reassembly (R83, R112). -/
  | cin2Terminate (cable : BitVec 4) (d1 d2 d3 : Byte)
  /-- CIN_3_TERMINATE: a group that ends reassembly (R83, R112). -/
  | cin3Terminate (cable : BitVec 4) (d1 d2 d3 : Byte)
  /-- CIN_8_TERMINATE: a group that ends reassembly (R83, R112). -/
  | cin8Terminate (cable : BitVec 4) (d1 d2 d3 : Byte)
  /-- CIN_9_TERMINATE: a group that ends reassembly (R83, R112). -/
  | cin9Terminate (cable : BitVec 4) (d1 d2 d3 : Byte)
  /-- CIN_A_TERMINATE: a group that ends reassembly (R83, R112). -/
  | cinATerminate (cable : BitVec 4) (d1 d2 d3 : Byte)
  /-- CIN_B_TERMINATE: a group that ends reassembly (R83, R112). -/
  | cinBTerminate (cable : BitVec 4) (d1 d2 d3 : Byte)
  /-- CIN_C_TERMINATE: a group that ends reassembly (R83, R112). -/
  | cinCTerminate (cable : BitVec 4) (d1 d2 d3 : Byte)
  /-- CIN_D_TERMINATE: a group that ends reassembly (R83, R112). -/
  | cinDTerminate (cable : BitVec 4) (d1 d2 d3 : Byte)
  /-- CIN_E_TERMINATE: a group that ends reassembly (R83, R112). -/
  | cinETerminate (cable : BitVec 4) (d1 d2 d3 : Byte)
  /-- CIN_F_TERMINATE: a group that ends reassembly (R83, R112). -/
  | cinFTerminate (cable : BitVec 4) (d1 d2 d3 : Byte)
  deriving DecidableEq, Repr

end Sys2Proof
end

