-- ==== Sys2Proof/WellFormed.lean ====
section
/-! DEFINITION. Which instructions are well-formed. Reserved bits and unused fields are checked by
Decode (R76 steps 2 and 3), since a decoded instruction no longer holds them; what is left is the
payload length (R74, R27) and the canonical reading of the edit-mode frame. -/

namespace Sys2Proof

/-- A payload length in 1..MAX_PAYLOAD (R27, R74). -/
abbrev LegalLen (cfg : Config) (len : BitVec 8) : Prop :=
  1 ≤ len.toNat ∧ len.toNat ≤ cfg.maxPayload

/-- The operands of the edit-mode command EDIT_CMD (R81). -/
abbrev IsEdit (addr : ParamAddr) (value : Byte) (len : BitVec 8) : Prop :=
  addr = editAddr ∧ value = editValue ∧ len = 1

/-- The well-formed instructions under a configuration: a WRITE's LEN is legal (R74, R76 step 4), and a
write frame has a legal length (R77) and is not the frame that is read as EDIT_FRAME (R81,
notes/assumptions/12.md). -/
def WellFormed (cfg : Config) : Instr → Bool
  | .write _ _ len => LegalLen cfg len
  | .writeFrame addr value len => decide (LegalLen cfg len) && !decide (IsEdit addr value len)
  | _ => true

end Sys2Proof
end

