-- ==== Sys2Proof/Decode.lean ====
section
/-! DEFINITION. Decoding and encoding of the three formats (30_encoding.md): the host request word
(R71 to R76), the outbound frame (R77 to R81) and the USB-MIDI group (R82, R83). -/

namespace Sys2Proof

/-- An instruction's encoding, in the format of its opcode-table row (notes/assumptions/1.md). -/
inductive Encoded where
  /-- A 64-bit host request word (R70). -/
  | request (w : RequestWord)
  /-- The bytes of an outbound frame (R77). -/
  | frame (bytes : Frame)
  /-- A 4-byte USB-MIDI event group (R82). -/
  | group (b0 b1 b2 b3 : Byte)
  deriving DecidableEq, Repr

/-- Why no instruction is read. -/
inductive DecodeError where
  /-- RESERVED_BITS: a reserved or unused request field is not zero (R76 steps 2 and 3). -/
  | reservedBits
  /-- The bytes are no frame the block produces (R77 to R81; notes/assumptions/16.md). -/
  | notAFrame
  deriving DecidableEq, Repr

/-! ### The request word's fields (R71) -/

/-- OP, bits 3:0. -/
def reqOp (w : RequestWord) : BitVec 4 := w.extractLsb' 0 4

/-- RSV0, bits 7:4. -/
def reqRsv0 (w : RequestWord) : BitVec 4 := w.extractLsb' 4 4

/-- LEN, bits 15:8. -/
def reqLen (w : RequestWord) : BitVec 8 := w.extractLsb' 8 8

/-- VAL, bits 23:16. -/
def reqVal (w : RequestWord) : Byte := w.extractLsb' 16 8

/-- RSV1, bits 31:24. -/
def reqRsv1 (w : RequestWord) : BitVec 8 := w.extractLsb' 24 8

/-- ADDR, bits 63:32. -/
def reqAddr (w : RequestWord) : ParamAddr := w.extractLsb' 32 32

/-- Bits 63:4, everything but OP. -/
def reqRest (w : RequestWord) : BitVec 60 := w.extractLsb' 4 60

/-- The request word of R71 from its fields. -/
def requestWord (op : BitVec 4) (len : BitVec 8) (value : Byte) (addr : ParamAddr) : RequestWord :=
  addr ++ (0 : BitVec 8) ++ value ++ len ++ (0 : BitVec 4) ++ op

/-- A request word with a reserved OP: the other bits are unread (R75). -/
def reservedWord (op : BitVec 4) (rest : BitVec 60) : RequestWord := rest ++ op

/-- A request without operands: every field but OP must be zero (R74). -/
def decodeBare (w : RequestWord) (i : Instr) : Except DecodeError Instr :=
  if reqRest w = 0 then .ok i else .error .reservedBits

/-- WRITE: RSV0 and RSV1 must be zero (R74); LEN is checked by its meaning (R76 step 4). -/
def decodeWrite (w : RequestWord) : Except DecodeError Instr :=
  if reqRsv0 w = 0 ∧ reqRsv1 w = 0 then .ok (.write (reqAddr w) (reqVal w) (reqLen w))
  else .error .reservedBits

/-- READ: RSV0, RSV1 and LEN must be zero (R74). -/
def decodeRead (w : RequestWord) : Except DecodeError Instr :=
  if reqRsv0 w = 0 ∧ reqRsv1 w = 0 ∧ reqLen w = 0 then .ok (.read (reqAddr w) (reqVal w))
  else .error .reservedBits

/-- The host opcode map (R73, R75). -/
def decodeRequest (w : RequestWord) : Except DecodeError Instr :=
  match (reqOp w).toNat with
  | 0 => decodeBare w .nop
  | 1 => decodeWrite w
  | 2 => decodeRead w
  | 3 => decodeBare w .poll
  | 4 => decodeBare w .queryEmpty
  | 5 => .ok (.reserved5 (reqRest w))
  | 6 => .ok (.reserved6 (reqRest w))
  | 7 => .ok (.reserved7 (reqRest w))
  | 8 => .ok (.reserved8 (reqRest w))
  | 9 => .ok (.reserved9 (reqRest w))
  | 10 => .ok (.reservedA (reqRest w))
  | 11 => .ok (.reservedB (reqRest w))
  | 12 => .ok (.reservedC (reqRest w))
  | 13 => .ok (.reservedD (reqRest w))
  | 14 => .ok (.reservedE (reqRest w))
  | _ => .ok (.reservedF (reqRest w))

/-! ### The USB-MIDI group (R82, R83) -/

/-- The CIN of a group: bits 3:0 of its first byte (R82). -/
def groupCin (b0 : Byte) : BitVec 4 := b0.extractLsb' 0 4

/-- The cable number: bits 7:4 of the first byte (R82). -/
def groupCable (b0 : Byte) : BitVec 4 := b0.extractLsb' 4 4

/-- The group's row by its CIN; every group decodes (R83). -/
def decodeGroup (b0 b1 b2 b3 : Byte) : Instr :=
  match (groupCin b0).toNat with
  | 0 => .cin0Terminate (groupCable b0) b1 b2 b3
  | 1 => .cin1Terminate (groupCable b0) b1 b2 b3
  | 2 => .cin2Terminate (groupCable b0) b1 b2 b3
  | 3 => .cin3Terminate (groupCable b0) b1 b2 b3
  | 4 => .cin4 (groupCable b0) b1 b2 b3
  | 5 => .cin5 (groupCable b0) b1 b2 b3
  | 6 => .cin6 (groupCable b0) b1 b2 b3
  | 7 => .cin7 (groupCable b0) b1 b2 b3
  | 8 => .cin8Terminate (groupCable b0) b1 b2 b3
  | 9 => .cin9Terminate (groupCable b0) b1 b2 b3
  | 10 => .cinATerminate (groupCable b0) b1 b2 b3
  | 11 => .cinBTerminate (groupCable b0) b1 b2 b3
  | 12 => .cinCTerminate (groupCable b0) b1 b2 b3
  | 13 => .cinDTerminate (groupCable b0) b1 b2 b3
  | 14 => .cinETerminate (groupCable b0) b1 b2 b3
  | _ => .cinFTerminate (groupCable b0) b1 b2 b3

/-- A group from its CIN, cable number and data bytes (R82). -/
def groupOf (cin cable : BitVec 4) (d1 d2 d3 : Byte) : Encoded :=
  .group (cable ++ cin) d1 d2 d3

/-! ### The outbound frame (R77 to R81, R100 to R104) -/

/-- Address bytes, most significant first (R50). -/
def addrBytes (a : ParamAddr) : List Byte :=
  [a.extractLsb' 24 8, a.extractLsb' 16 8, a.extractLsb' 8 8, a.extractLsb' 0 8]

/-- Four bytes read as an address, most significant first (R51). -/
def addrOfBytes (b3 b2 b1 b0 : Byte) : ParamAddr := b3 ++ b2 ++ b1 ++ b0

/-- Payload: `len - 1` bytes of 0x00, then the value (R102). -/
def payloadBytes (len : Nat) (value : Byte) : List Byte :=
  List.replicate (len - 1) (0 : Byte) ++ [value]

/-- The sum of bytes as natural numbers (R103). -/
def byteSum (bs : List Byte) : Nat := (bs.map BitVec.toNat).sum

/-- The checksum over a window (R103). -/
def checksumOf (window : List Byte) : Byte :=
  BitVec.ofNat 8 ((128 - byteSum window % 128) % 128)

/-- The checksum window of a frame: positions 8 to 11 + len (R104). -/
def frameWindow (addr : ParamAddr) (len : Nat) (value : Byte) : List Byte :=
  addrBytes addr ++ payloadBytes len value

/-- The frame of R77 and R100. -/
def frameOf (cfg : Config) (action : Byte) (addr : ParamAddr) (len : Nat) (value : Byte) : Frame :=
  [startByte] ++ cfg.wireId.bytes ++ [action] ++ frameWindow addr len value ++
    [checksumOf (frameWindow addr len value), endByte]

/-- A frame instruction's bytes; an instruction of another format has none. -/
def frameBytes (cfg : Config) : Instr → Option Frame
  | .writeFrame addr value len => some (frameOf cfg actWrite addr len.toNat value)
  | .readFrame addr probe => some (frameOf cfg actRead addr readLen.toNat probe)
  | .handshake => some handshakeFrame
  | .editFrame => some (frameOf cfg actWrite editAddr 1 editValue)
  | _ => none

/-- The write frame a length, address and value stand for: EDIT_FRAME where they are EDIT_CMD's
(R81, notes/assumptions/12.md). -/
def writeFrameOf (addr : ParamAddr) (value : Byte) (len : BitVec 8) : Instr :=
  if IsEdit addr value len then .editFrame else .writeFrame addr value len

/-- The frame instruction that positions 7, 8 to 11 and 11 + L name, L being the frame's length less
14 (R77, R79). -/
def frameCandidate (bytes : Frame) : Option Instr :=
  let len := bytes.length - 14
  let addr := addrOfBytes (bytes.getD 8 0) (bytes.getD 9 0) (bytes.getD 10 0) (bytes.getD 11 0)
  let value := bytes.getD (11 + len) 0
  if bytes = handshakeFrame then some .handshake
  else if bytes.getD 7 0 = actWrite then some (writeFrameOf addr value (BitVec.ofNat 8 len))
  else if bytes.getD 7 0 = actRead then some (.readFrame addr value)
  else none

/-- A frame is read by its fields and accepted only if the named well-formed instruction has exactly
these bytes: identifier, fill, checksum, START and END are all checked so (R77 to R81). -/
def decodeFrame (cfg : Config) (bytes : Frame) : Except DecodeError Instr :=
  match frameCandidate bytes with
  | some i => if WellFormed cfg i = true ∧ frameBytes cfg i = some bytes then .ok i else .error .notAFrame
  | none => .error .notAFrame

/-! ### All formats -/

/-- The decoder. -/
def decode (cfg : Config) : Encoded → Except DecodeError Instr
  | .request w => decodeRequest w
  | .frame bytes => decodeFrame cfg bytes
  | .group b0 b1 b2 b3 => .ok (decodeGroup b0 b1 b2 b3)

/-- The encoder, from the same tables (R71, R73, R77, R80 to R83). -/
def encode (cfg : Config) : Instr → Encoded
  | .nop => .request (requestWord 0x0 0 0 0)
  | .write addr value len => .request (requestWord 0x1 len value addr)
  | .read addr probe => .request (requestWord 0x2 0 probe addr)
  | .poll => .request (requestWord 0x3 0 0 0)
  | .queryEmpty => .request (requestWord 0x4 0 0 0)
  | .reserved5 rest => .request (reservedWord 0x5 rest)
  | .reserved6 rest => .request (reservedWord 0x6 rest)
  | .reserved7 rest => .request (reservedWord 0x7 rest)
  | .reserved8 rest => .request (reservedWord 0x8 rest)
  | .reserved9 rest => .request (reservedWord 0x9 rest)
  | .reservedA rest => .request (reservedWord 0xA rest)
  | .reservedB rest => .request (reservedWord 0xB rest)
  | .reservedC rest => .request (reservedWord 0xC rest)
  | .reservedD rest => .request (reservedWord 0xD rest)
  | .reservedE rest => .request (reservedWord 0xE rest)
  | .reservedF rest => .request (reservedWord 0xF rest)
  | .writeFrame addr value len => .frame (frameOf cfg actWrite addr len.toNat value)
  | .readFrame addr probe => .frame (frameOf cfg actRead addr readLen.toNat probe)
  | .handshake => .frame handshakeFrame
  | .editFrame => .frame (frameOf cfg actWrite editAddr 1 editValue)
  | .cin0Terminate cable d1 d2 d3 => groupOf 0x0 cable d1 d2 d3
  | .cin1Terminate cable d1 d2 d3 => groupOf 0x1 cable d1 d2 d3
  | .cin2Terminate cable d1 d2 d3 => groupOf 0x2 cable d1 d2 d3
  | .cin3Terminate cable d1 d2 d3 => groupOf 0x3 cable d1 d2 d3
  | .cin4 cable d1 d2 d3 => groupOf 0x4 cable d1 d2 d3
  | .cin5 cable d1 d2 d3 => groupOf 0x5 cable d1 d2 d3
  | .cin6 cable d1 d2 d3 => groupOf 0x6 cable d1 d2 d3
  | .cin7 cable d1 d2 d3 => groupOf 0x7 cable d1 d2 d3
  | .cin8Terminate cable d1 d2 d3 => groupOf 0x8 cable d1 d2 d3
  | .cin9Terminate cable d1 d2 d3 => groupOf 0x9 cable d1 d2 d3
  | .cinATerminate cable d1 d2 d3 => groupOf 0xA cable d1 d2 d3
  | .cinBTerminate cable d1 d2 d3 => groupOf 0xB cable d1 d2 d3
  | .cinCTerminate cable d1 d2 d3 => groupOf 0xC cable d1 d2 d3
  | .cinDTerminate cable d1 d2 d3 => groupOf 0xD cable d1 d2 d3
  | .cinETerminate cable d1 d2 d3 => groupOf 0xE cable d1 d2 d3
  | .cinFTerminate cable d1 d2 d3 => groupOf 0xF cable d1 d2 d3

/-! ### Words as the opcode table numbers them -/

/-- `n` bytes of a number, least significant first. -/
def bytesOfNat : Nat → Nat → List Byte
  | 0, _ => []
  | n + 1, w => BitVec.ofNat 8 w :: bytesOfNat n (w / 256)

/-- The encoding a table row's bits stand for, its format told by the row's width: one byte is a
group's first byte, at most 64 bits a request word, more a frame (notes/assumptions/13.md). -/
def encodedOfTableWord (nbits w : Nat) : Encoded :=
  if nbits ≤ 8 then .group (BitVec.ofNat 8 w) 0 0 0
  else if nbits ≤ 64 then .request (BitVec.ofNat 64 w)
  else .frame (bytesOfNat ((nbits + 7) / 8) w)

/-- What the decoder reads from a table row's bits, under the configuration of reset. -/
def decodeTableWord (nbits w : Nat) : Option Instr :=
  match decode Config.defaults (encodedOfTableWord nbits w) with
  | .ok i => some i
  | .error _ => none

end Sys2Proof
end

