-- ==== Sys2Proof/Machine/State.lean ====
section
/-! DEFINITION. The state (10_state.md), as plain data: the hardware registers and queue, the static
configuration, the spec's bookkeeping (R31), the working buffers (R32), the outside world as the block
sees it (R34, R150 to R153), and the model's own input and output (notes/assumptions/2.md, 3.md). -/

namespace Sys2Proof.Machine

/-- A command's operation (R27). -/
inductive Op where
  /-- Code 0. -/
  | write
  /-- Code 1. -/
  | read
  deriving DecidableEq, Repr

/-- A command (R27). -/
structure Command where
  addr : ParamAddr
  value : Byte
  len : BitVec 8
  op : Op
  deriving DecidableEq, Repr

/-- `ctrl_state` code of DISCONNECTED (R21). -/
abbrev ctrlDisconnected : BitVec 2 := 0b00#2

/-- `ctrl_state` code of HANDSHAKING (R21). -/
abbrev ctrlHandshaking : BitVec 2 := 0b01#2

/-- `ctrl_state` code of READY (R21). -/
abbrev ctrlReady : BitVec 2 := 0b10#2

/-- Events (R214). -/
inductive Event where
  /-- A frame was handed to `SendFrame`. -/
  | tx (frame : Frame)
  /-- A frame was decoded. -/
  | rx (addr : ParamAddr) (value : Byte)
  /-- The oldest command was evicted. -/
  | evict (cmd : Command)
  /-- `ctrl_state` changed to this value. -/
  | state (ctrl : BitVec 2)
  deriving DecidableEq, Repr

/-- The reasons of R192's table, in the order of their codes 1 to 6. -/
inductive Reason where
  | badOpcode
  | reservedBits
  | badLength
  | nonmonotonicTime
  | timeOverflow
  | rxTooLong
  deriving DecidableEq, Repr

/-- How reassembly stopped (R110). -/
inductive Term where
  | endSeen
  | stoppedByCin
  | exhausted
  deriving DecidableEq, Repr

/-- The reassembly buffer B, and how reassembly stopped if it has (R110). -/
structure Reassembly where
  bytes : List Byte
  term : Option Term
  deriving DecidableEq, Repr

/-- Reassembly before its first group (R110). -/
def Reassembly.start : Reassembly := ⟨[], none⟩

/-- What a POLL samples: free inputs, any value (R150 to R153, notes/assumptions/6.md and 7.md). -/
structure Inputs where
  /-- `Now` (R150). -/
  now : Nat
  /-- What `Connected()` answers (R151). -/
  connected : Bool
  /-- Whether `Receive()` answers with the oldest packet the transport holds; it may answer `None`
  although it holds one (R204). -/
  offers : Bool
  /-- Whether `SendFrame` answers `ok` (R153). -/
  sendOk : Bool
  deriving DecidableEq, Repr

/-- What the outside world does next (notes/assumptions/2.md). -/
inductive Stimulus where
  /-- A reset pulse (R220). -/
  | reset
  /-- An operation: its encoding, the inputs it may sample, and the packets the device gave the
  transport since the operation before (R34). -/
  | operation (code : Encoded) (inputs : Inputs) (arrivals : List Packet)
  deriving DecidableEq, Repr

/-- What the last step answered (R72, R191; notes/assumptions/1.md, 3.md). -/
inductive Answer where
  /-- No host request has been answered. -/
  | none
  /-- A completed request's response word (R72). -/
  | response (w : ResponseWord)
  /-- A refused request has no response, only a reason (R191). -/
  | refused (r : Reason)
  /-- The frame a frame operation composed (R100; notes/assumptions/1.md). -/
  | composed (f : Frame)
  /-- What Reassemble gives of the one-group packet of a group operation (R110; notes/assumptions/1.md). -/
  | reassembled (r : Reassembly)
  deriving DecidableEq, Repr

/-- The machine. -/
structure State where
  /-- The static configuration (R30). -/
  cfg : Config
  /-- `ctrl_state` (R21). -/
  ctrlState : BitVec 2
  /-- `hs_step` (R23). -/
  hsStep : BitVec 2
  /-- `next_time` (R25; a Nat: notes/assumptions/14.md). -/
  nextTime : Nat
  /-- `Q`, oldest first (R26, R28). -/
  queue : List Command
  /-- `last_now` (R31). -/
  lastNow : Option Nat
  /-- `refused`, the sticky mark (R31, R193). -/
  refused : Option Reason
  /-- `trace`, oldest event first (R31, R214). -/
  trace : List Event
  /-- The outbound frame buffer (R32); empty between steps (notes/assumptions/11.md). -/
  frameBuf : Frame
  /-- The reassembly buffer (R32); empty between steps (notes/assumptions/11.md). -/
  reasm : Reassembly
  /-- The groups of the packet in the reassembly that Reassemble's loop has been given, its index `g`
  (R110); 0 between steps (notes/assumptions/22.md). -/
  rxGroups : Nat
  /-- The packets the transport holds, oldest first (R34, R59). -/
  inbox : List Packet
  /-- The signals as they stand (R150 to R153). -/
  inputs : Inputs
  /-- What the outside world does next, soonest first. -/
  stream : List Stimulus
  /-- What the last step answered. -/
  answer : Answer
  deriving DecidableEq, Repr

/-- Where the machine stops. Every constructor is reached only from states that R36 rules out (R190:
the block itself raises no fault), so each is safe (notes/assumptions/8.md). -/
inductive Fault where
  /-- A connected POLL found `ctrl_state` = 0b11, for which R154 has no case (R21, R36 (b)). Safe. -/
  | ctrlStateUnused
  /-- A POLL in HANDSHAKING found `hs_step` = 0, for which R154 has no case (R23, R36 (c)). Safe. -/
  | hsStepUnused
  /-- A command reached Encode with a length outside 1..MAX_PAYLOAD (R100, R36 (d)); raised by a
  dispatching POLL and by a frame instruction. Safe. -/
  | illegalLength
  deriving DecidableEq, Repr

/-- Refusals of the model itself; the spec's own refusals are next states (notes/assumptions/3.md). -/
inductive Refusal where
  /-- An instruction without a meaning yet; no arm answers so any more. Safe. -/
  | notModelled (mnemonic : String)
  /-- The step was given bytes as an outbound frame that the block never produces (R79;
  notes/assumptions/16.md). Safe. -/
  | notAnOutboundFrame
  deriving DecidableEq, Repr

/-- A step's outcome. -/
abbrev Out := Host.Outcome State Fault Refusal

/-- The signals before anything has driven them. DESIGN CHOICE, unsafe (notes/assumptions/10.md). -/
def Inputs.idle : Inputs := ⟨0, false, false, true⟩

/-- The machine right after reset, at the start of a run, under a configuration (R31, R220). -/
def State.resetWith (cfg : Config) : State where
  cfg := cfg
  ctrlState := ctrlDisconnected
  hsStep := 1
  nextTime := 0
  queue := []
  lastNow := none
  refused := none
  trace := []
  frameBuf := []
  reasm := Reassembly.start
  rxGroups := 0
  inbox := []
  inputs := Inputs.idle
  stream := []
  answer := .none

/-- The machine right after reset with the values R30 gives where the integrator supplies none. -/
def State.reset : State := State.resetWith Config.defaults

end Sys2Proof.Machine
end

