-- ==== Sys2Proof/Machine/Codec.lean ====
section
/-! DEFINITION. The Frame Codec (40_frame_codec.md): pure functions, used by POLL and by the frame and
group instructions. -/

namespace Sys2Proof.Machine

/-- The action byte of an operation (R79). -/
def actionByte : Op → Byte
  | .write => actWrite
  | .read => actRead

/-- Encode (R100). -/
def encodeCommand (cfg : Config) (c : Command) : Frame :=
  frameOf cfg (actionByte c.op) c.addr c.len.toNat c.value

/-- EDIT_CMD (R81). -/
def editCommand : Command := ⟨editAddr, editValue, 1, .write⟩

/-- CIN_COUNT (R83, R110). -/
def cinCount (cin : BitVec 4) : Nat :=
  match cin.toNat with
  | 4 => 3
  | 5 => 1
  | 6 => 2
  | 7 => 3
  | _ => 0

/-- Take data bytes in order, stopping at the first END, which is taken too (R110, R113). -/
def takeBytes : List Byte → Reassembly → Reassembly
  | [], r => r
  | d :: ds, r =>
    if d = endByte then ⟨r.bytes ++ [d], some .endSeen⟩
    else takeBytes ds ⟨r.bytes ++ [d], r.term⟩

/-- One turn of Reassemble's loop for a group of this CIN: a group after the stop is not read (R110 to
R113). -/
def takeGroup (cin : BitVec 4) (d1 d2 d3 : Byte) (r : Reassembly) : Reassembly :=
  match r.term with
  | some _ => r
  | none =>
    if cinCount cin = 0 then { r with term := some .stoppedByCin }
    else takeBytes ([d1, d2, d3].take (cinCount cin)) r

/-- The groups ran out (R114). -/
def endOfGroups (r : Reassembly) : Reassembly :=
  match r.term with
  | some _ => r
  | none => { r with term := some .exhausted }

/-- A 4-byte event group, in wire order (R82). -/
abbrev EventGroup := Byte × Byte × Byte × Byte

/-- The whole groups of a packet; a trailing part of a group is ignored (R82, R111). -/
def groupsOf : Packet → List EventGroup
  | b0 :: b1 :: b2 :: b3 :: rest => (b0, b1, b2, b3) :: groupsOf rest
  | _ => []

/-- One turn of Reassemble's loop (R110). -/
def readGroup (r : Reassembly) (g : EventGroup) : Reassembly :=
  takeGroup (groupCin g.1) g.2.1 g.2.2.1 g.2.2.2 r

/-- Reassemble (R110); the result's `term` is never `none`. -/
def reassemble (p : Packet) : Reassembly :=
  endOfGroups ((groupsOf p).foldl readGroup Reassembly.start)

/-- The inbound checksum test over `B[8 .. n-2]` (R118). -/
def rxChecksumOk (b : List Byte) : Bool :=
  byteSum ((b.take (b.length - 1)).drop 8) % 128 == 0

/-- The address and value read by position from B (R84, R116). -/
def rxFields (b : List Byte) : ParamAddr × Byte :=
  (addrOfBytes (b.getD 8 0) (b.getD 9 0) (b.getD 10 0) (b.getD 11 0), b.getD (b.length - 3) 0)

/-- Decode (R115). -/
def decodePacket (cfg : Config) (p : Packet) : Option (ParamAddr × Byte) :=
  let r := reassemble p
  if r.term ≠ some .endSeen then none
  else if r.bytes.length < 15 then none
  else if cfg.validateRxChecksum && !rxChecksumOk r.bytes then none
  else some (rxFields r.bytes)

end Sys2Proof.Machine
end

