-- ==== Sys2Proof/Machine/Flags.lean ====
section
/-! DEFINITION. The response word and its status bits (30_encoding.md R72), computed afresh by each
operation (10_state.md R29), and the refusal codes (60_exceptions.md R192). -/

namespace Sys2Proof.Machine

/-- RESULT's values (R72); codes 5 to 7 are never produced. -/
inductive PollResult where
  | none
  | idle
  | notReady
  | justReady
  | received
  deriving DecidableEq, Repr

/-- RESULT's code (R72). -/
def resultCode : PollResult → BitVec 3
  | .none => 0
  | .idle => 1
  | .notReady => 2
  | .justReady => 3
  | .received => 4

/-- The fields of a response (R72). -/
structure Response where
  result : PollResult
  txErr : Bool
  qEmpty : Bool
  evicted : Bool
  rxValue : Byte
  rxAddr : ParamAddr
  deriving DecidableEq, Repr

/-- The response word of R72; bits 7:6 and 31:16 are 0. -/
def responseWord (r : Response) : ResponseWord :=
  r.rxAddr ++ (0 : BitVec 16) ++ r.rxValue ++ (0 : BitVec 2) ++ BitVec.ofBool r.evicted ++
    BitVec.ofBool r.qEmpty ++ BitVec.ofBool r.txErr ++ resultCode r.result

/-- IsEmpty(), the Q_EMPTY bit (R137, R72). -/
def isEmpty (s : State) : Bool := s.queue.isEmpty

/-- The response of WRITE and READ: only EVICTED can be set (R138, R139). -/
def enqueueResponse (evicted : Bool) : Response := ⟨.none, false, false, evicted, 0, 0⟩

/-- The response of QUERY_EMPTY and NOP: only Q_EMPTY can be set (R140, R141). -/
def queryResponse (s : State) : Response := ⟨.none, false, isEmpty s, false, 0, 0⟩

/-- A POLL's `resp(R)`: Q_EMPTY is read after the POLL's effects (R154). -/
def pollResponse (result : PollResult) (txErr : Bool) (s : State) : Response :=
  ⟨result, txErr, isEmpty s, false, 0, 0⟩

/-- A POLL's `resp(RECEIVED, a, v)` (R154). -/
def receivedResponse (addr : ParamAddr) (value : Byte) (s : State) : Response :=
  ⟨.received, false, isEmpty s, false, value, addr⟩

/-- The codes of the refusal reasons (R192). -/
def reasonCode : Reason → Nat
  | .badOpcode => 1
  | .reservedBits => 2
  | .badLength => 3
  | .nonmonotonicTime => 4
  | .timeOverflow => 5
  | .rxTooLong => 6

end Sys2Proof.Machine
end

