-- ==== Sys2Proof/Machine/Ops.lean ====
section
/-! DEFINITION. The named operations on the state: the pseudocode primitives (00_scope.md R15), the queue
(41_command_queue.md), the timer, the transport's answers, the refusal (60_exceptions.md R191), which takes
the place of an exception here (R197, R198), and reset (70_reset_and_hazards.md R220). -/

namespace Sys2Proof.Machine

/-- Emit(e) (R214). -/
def emit (e : Event) (s : State) : State := { s with trace := s.trace ++ [e] }

/-- `return r` (R15, R72). -/
def respond (r : Response) (s : State) : State := { s with answer := .response (responseWord r) }

/-- The first refusal's reason is kept (R191, R193). -/
def firstReason (old : Option Reason) (r : Reason) : Option Reason :=
  match old with
  | none => some r
  | some r0 => some r0

/-- `refuse r` (R191): the sticky mark is set, there is no response, and nothing else changes (R197).
It is a next state: notes/assumptions/3.md. -/
def refuse (r : Reason) (s : State) : State :=
  { s with refused := firstReason s.refused r, answer := .refused r }

/-! ### The queue -/

/-- `Q <- q`. -/
def setQueue (q : List Command) (s : State) : State := { s with queue := q }

/-- Enqueue's result: whether the queue is at capacity (R131). -/
def evicts (s : State) : Bool := s.queue.length == s.cfg.queueN

/-- Enqueue's eviction: drop the oldest entry and say so (R131, R132). -/
def evictOldest (s : State) : State :=
  match s.queue with
  | [] => s
  | old :: rest => emit (.evict old) (setQueue rest s)

/-- `Q <- Q ++ [cmd]` (R131). -/
def append (c : Command) (s : State) : State := setQueue (s.queue ++ [c]) s

/-- Enqueue (R131). -/
def enqueue (c : Command) (s : State) : State :=
  if evicts s then append c (evictOldest s) else append c s

/-- Dequeue (R134). -/
def dequeue (s : State) : Option (Command × State) :=
  match s.queue with
  | [] => none
  | c :: rest => some (c, setQueue rest s)

/-! ### The controller's registers -/

/-- `ctrl_state <- c; Emit(STATE(c))` (R154, R214). -/
def enterState (c : BitVec 2) (s : State) : State := emit (.state c) { s with ctrlState := c }

/-- `hs_step <- k`. -/
def setHsStep (k : BitVec 2) (s : State) : State := { s with hsStep := k }

/-- `next_time <- Now + d` (R168). -/
def loadTimer (d : Nat) (s : State) : State := { s with nextTime := s.inputs.now + d }

/-- The timer comparison Now >= next_time (R167). -/
def timerExpired (s : State) : Bool := decide (s.nextTime ≤ s.inputs.now)

/-- A POLL's completion: `last_now <- Some(Now)` and its response (R150, R154). -/
def complete (r : Response) (s : State) : State :=
  respond r { s with lastNow := some s.inputs.now }

/-- The two-valued ConnectionState view of `ctrl_state`: whether it is Ready (R22). -/
def connectionReady (s : State) : Bool := decide (s.ctrlState = ctrlReady)

/-! ### The transport -/

/-- What `Receive()` returns (R152). -/
def received (s : State) : Option Packet := if s.inputs.offers then s.inbox.head? else none

/-- `Receive()` takes the packet it returns from the transport (R59, R152). -/
def takePacket (s : State) : State := if s.inputs.offers then { s with inbox := s.inbox.tail } else s

/-- Send(f): the frame is handed to the transport and emitted, whatever the transport answers (R153). -/
def sendFrame (f : Frame) (s : State) : State := emit (.tx f) s

/-- The TX_ERR bit after a send (R153, R169). -/
def sendError (s : State) : Bool := !s.inputs.sendOk

/-! ### The working buffers (R32) -/

/-- Fill the outbound frame buffer. -/
def loadFrame (f : Frame) (s : State) : State := { s with frameBuf := f }

/-- One group through the reassembly buffer (R110). -/
def loadGroup (cin : BitVec 4) (d1 d2 d3 : Byte) (s : State) : State :=
  { s with reasm := takeGroup cin d1 d2 d3 s.reasm, rxGroups := s.rxGroups + 1 }

/-- Whether the packet with one more group is at most RX_MAX_BYTES long (R110's operand). -/
def groupFits (s : State) : Bool := decide (4 * (s.rxGroups + 1) ≤ s.cfg.rxMaxBytes)

/-- A group of the packet in the reassembly: R110 takes packets up to RX_MAX_BYTES only, which keeps the
buffer within R32's bound. DESIGN CHOICE (notes/assumptions/22.md): a group past that limit is refused as
POLL refuses a longer packet (R152), the buffer as it was. -/
def acceptGroup (cin : BitVec 4) (d1 d2 d3 : Byte) (s : State) : State :=
  if groupFits s then loadGroup cin d1 d2 d3 s else refuse .rxTooLong s

/-- The buffers hold nothing between operations (R32). -/
def clearBuffers (s : State) : State :=
  { s with frameBuf := [], reasm := Reassembly.start, rxGroups := 0 }

/-! ### Reset -/

/-- Reset (R220, R221): `refused`, `trace`, the configuration and the outside world stay as they are. -/
def hardReset (s : State) : State :=
  { s with
    ctrlState := ctrlDisconnected, hsStep := 1, nextTime := 0, queue := [], lastNow := none,
    frameBuf := [], reasm := Reassembly.start, rxGroups := 0, answer := .none }

end Sys2Proof.Machine
end

