-- ==== Sys2Proof/Machine/Operands.lean ====
section
/-! DEFINITION. The operand forms: a WRITE's and a READ's command from the request word's fields
(41_command_queue.md R138, R139), the length check (30_encoding.md R76 step 4) and POLL's checks of the
time input (42_dispatch.md R150, R168). -/

namespace Sys2Proof.Machine

/-- The command of a WRITE (R138). -/
def writeCommand (addr : ParamAddr) (value : Byte) (len : BitVec 8) : Command :=
  ⟨addr, value, len, .write⟩

/-- The command of a READ: its length is READ_LEN (R139). -/
def readCommand (addr : ParamAddr) (probe : Byte) : Command := ⟨addr, probe, readLen, .read⟩

/-- Whether a length is in 1..MAX_PAYLOAD (R27, R74). -/
def lengthOk (s : State) (len : BitVec 8) : Bool := decide (LegalLen s.cfg len)

/-- `Now` is less than the last completed POLL's (R150). -/
def timeGoesBack (s : State) : Bool :=
  match s.lastNow with
  | none => false
  | some t => decide (s.inputs.now < t)

/-- `Now + MAX_WAIT > 2^TIME_W - 1` (R168). -/
def timeOverflows (s : State) : Bool := decide (s.cfg.maxTime < s.inputs.now + s.cfg.maxWait)

/-- POLL's checks of `Now`, in R195's order. -/
def timeRefusal (s : State) : Option Reason :=
  if timeGoesBack s then some .nonmonotonicTime
  else if timeOverflows s then some .timeOverflow
  else none

end Sys2Proof.Machine
end

