-- ==== Sys2Proof/Machine/Frames.lean ====
section
/-! DEFINITION. The meanings of the outbound-frame rows: the Frame Codec composes the frame in the
outbound frame buffer (40_frame_codec.md R100, R101; 10_state.md R32). Only POLL hands a frame to the
transport (60_exceptions.md R200; notes/assumptions/1.md). -/

namespace Sys2Proof.Machine

/-- Encode a command into the outbound frame buffer; a command reaches Encode with a legal length
only (R100). -/
def composeFrame (c : Command) (s : State) : Out :=
  if lengthOk s c.len then .next (loadFrame (encodeCommand s.cfg c) s) else .fault .illegalLength

/-- WRITE_FRAME (R77, R100). -/
def execWriteFrame (addr : ParamAddr) (value : Byte) (len : BitVec 8) (s : State) : Out :=
  composeFrame (writeCommand addr value len) s

/-- READ_FRAME (R77, R100). -/
def execReadFrame (addr : ParamAddr) (probe : Byte) (s : State) : Out :=
  composeFrame (readCommand addr probe) s

/-- HANDSHAKE: the literal, not through Encode (R80, R109). -/
def execHandshake (s : State) : Out := .next (loadFrame handshakeFrame s)

/-- EDIT_FRAME (R81). -/
def execEditFrame (s : State) : Out := composeFrame editCommand s

end Sys2Proof.Machine
end

