-- ==== Sys2Proof/Machine/Groups.lean ====
section
/-! DEFINITION. The meanings of the USB-MIDI group rows: one turn of Reassemble's loop on the
reassembly buffer, for a packet within RX_MAX_BYTES (40_frame_codec.md R110 to R113;
notes/assumptions/1.md and 22.md). The cable number is ignored (30_encoding.md R82). -/

namespace Sys2Proof.Machine

/-- CIN 0x0 (R112). -/
def execCin0Terminate (_cable : BitVec 4) (d1 d2 d3 : Byte) (s : State) : Out :=
  .next (acceptGroup 0x0 d1 d2 d3 s)

/-- CIN 0x1 (R112). -/
def execCin1Terminate (_cable : BitVec 4) (d1 d2 d3 : Byte) (s : State) : Out :=
  .next (acceptGroup 0x1 d1 d2 d3 s)

/-- CIN 0x2 (R112). -/
def execCin2Terminate (_cable : BitVec 4) (d1 d2 d3 : Byte) (s : State) : Out :=
  .next (acceptGroup 0x2 d1 d2 d3 s)

/-- CIN 0x3 (R112). -/
def execCin3Terminate (_cable : BitVec 4) (d1 d2 d3 : Byte) (s : State) : Out :=
  .next (acceptGroup 0x3 d1 d2 d3 s)

/-- CIN 0x4 (R83, R113). -/
def execCin4 (_cable : BitVec 4) (d1 d2 d3 : Byte) (s : State) : Out :=
  .next (acceptGroup 0x4 d1 d2 d3 s)

/-- CIN 0x5 (R83, R113). -/
def execCin5 (_cable : BitVec 4) (d1 d2 d3 : Byte) (s : State) : Out :=
  .next (acceptGroup 0x5 d1 d2 d3 s)

/-- CIN 0x6 (R83, R113). -/
def execCin6 (_cable : BitVec 4) (d1 d2 d3 : Byte) (s : State) : Out :=
  .next (acceptGroup 0x6 d1 d2 d3 s)

/-- CIN 0x7 (R83, R113). -/
def execCin7 (_cable : BitVec 4) (d1 d2 d3 : Byte) (s : State) : Out :=
  .next (acceptGroup 0x7 d1 d2 d3 s)

/-- CIN 0x8 (R112). -/
def execCin8Terminate (_cable : BitVec 4) (d1 d2 d3 : Byte) (s : State) : Out :=
  .next (acceptGroup 0x8 d1 d2 d3 s)

/-- CIN 0x9 (R112). -/
def execCin9Terminate (_cable : BitVec 4) (d1 d2 d3 : Byte) (s : State) : Out :=
  .next (acceptGroup 0x9 d1 d2 d3 s)

/-- CIN 0xA (R112). -/
def execCinATerminate (_cable : BitVec 4) (d1 d2 d3 : Byte) (s : State) : Out :=
  .next (acceptGroup 0xA d1 d2 d3 s)

/-- CIN 0xB (R112). -/
def execCinBTerminate (_cable : BitVec 4) (d1 d2 d3 : Byte) (s : State) : Out :=
  .next (acceptGroup 0xB d1 d2 d3 s)

/-- CIN 0xC (R112). -/
def execCinCTerminate (_cable : BitVec 4) (d1 d2 d3 : Byte) (s : State) : Out :=
  .next (acceptGroup 0xC d1 d2 d3 s)

/-- CIN 0xD (R112). -/
def execCinDTerminate (_cable : BitVec 4) (d1 d2 d3 : Byte) (s : State) : Out :=
  .next (acceptGroup 0xD d1 d2 d3 s)

/-- CIN 0xE (R112). -/
def execCinETerminate (_cable : BitVec 4) (d1 d2 d3 : Byte) (s : State) : Out :=
  .next (acceptGroup 0xE d1 d2 d3 s)

/-- CIN 0xF (R112). -/
def execCinFTerminate (_cable : BitVec 4) (d1 d2 d3 : Byte) (s : State) : Out :=
  .next (acceptGroup 0xF d1 d2 d3 s)

end Sys2Proof.Machine
end

