-- ==== Sys2Proof/Machine/Poll.lean ====
section
/-! DEFINITION. POLL (42_dispatch.md R154): one definition per case of its pseudocode. -/

namespace Sys2Proof.Machine

/-- `Connected() = false` (R156). -/
def pollDisconnected (s : State) : State :=
  let s1 := if s.ctrlState = ctrlDisconnected then s else enterState ctrlDisconnected s
  complete (pollResponse .notReady false s1) s1

/-- DISCONNECTED, now connected (R157). -/
def pollConnect (s : State) : State :=
  let s1 := setHsStep 1 (loadTimer s.cfg.hsDelay (sendFrame handshakeFrame (enterState ctrlHandshaking s)))
  complete (pollResponse .notReady (sendError s) s1) s1

/-- HANDSHAKING before the timer has expired (R167). -/
def pollWait (s : State) : State := complete (pollResponse .notReady false s) s

/-- HANDSHAKING, `hs_step` = 1 (R158). -/
def pollSecondHandshake (s : State) : State :=
  let s1 := setHsStep 2 (loadTimer s.cfg.hsDelay (sendFrame handshakeFrame s))
  complete (pollResponse .notReady (sendError s) s1) s1

/-- HANDSHAKING, `hs_step` = 2: the edit-mode frame, not through the queue (R159). -/
def pollEditMode (s : State) : State :=
  let s1 := setHsStep 3 (loadTimer s.cfg.initDelay (sendFrame (encodeCommand s.cfg editCommand) s))
  complete (pollResponse .notReady (sendError s) s1) s1

/-- HANDSHAKING, `hs_step` = 3 (R160). -/
def pollJustReady (s : State) : State :=
  let s1 := enterState ctrlReady s
  complete (pollResponse .justReady false s1) s1

/-- HANDSHAKING (R158 to R160, R167). -/
def pollHandshaking (s : State) : Out :=
  if timerExpired s = false then .next (pollWait s)
  else if s.hsStep = 1 then .next (pollSecondHandshake s)
  else if s.hsStep = 2 then .next (pollEditMode s)
  else if s.hsStep = 3 then .next (pollJustReady s)
  else .fault .hsStepUnused

/-- READY, a frame was decoded (R162). -/
def pollReceived (addr : ParamAddr) (value : Byte) (s : State) : State :=
  let s1 := emit (.rx addr value) (loadTimer s.cfg.receiveInterval s)
  complete (receivedResponse addr value s1) s1

/-- The pacing interval after a command (R164). -/
def pacingInterval (cfg : Config) : Op → Nat
  | .read => cfg.readInterval
  | .write => cfg.writeInterval

/-- READY, a command taken from the queue is sent (R163, R164). -/
def pollSend (c : Command) (s : State) : State :=
  let s1 := loadTimer (pacingInterval s.cfg c.op) (sendFrame (encodeCommand s.cfg c) s)
  complete (pollResponse .idle (sendError s) s1) s1

/-- READY, nothing to do (R165). -/
def pollIdle (s : State) : State := complete (pollResponse .idle false s) s

/-- READY, step 2 and step 3 (R163, R165). -/
def pollDispatch (s : State) : Out :=
  if timerExpired s then
    match dequeue s with
    | some (c, s1) => if lengthOk s c.len then .next (pollSend c s1) else .fault .illegalLength
    | none => .next (pollIdle s)
  else .next (pollIdle s)

/-- READY, with the packet `Receive()` returned (R152, R161, R173). -/
def pollPacket (p : Packet) (s : State) : Out :=
  if s.cfg.rxMaxBytes < p.length then .next (refuse .rxTooLong s)
  else
    match decodePacket s.cfg p with
    | some (addr, value) => .next (pollReceived addr value s)
    | none => pollDispatch s

/-- READY: receive before send (R161). -/
def pollReady (s : State) : Out :=
  match received s with
  | some p => pollPacket p (takePacket s)
  | none => pollDispatch s

/-- The case of `ctrl_state` (R154). -/
def pollConnected (s : State) : Out :=
  if s.ctrlState = ctrlDisconnected then .next (pollConnect s)
  else if s.ctrlState = ctrlHandshaking then pollHandshaking s
  else if s.ctrlState = ctrlReady then pollReady s
  else .fault .ctrlStateUnused

/-- POLL (R154). -/
def execPoll (s : State) : Out :=
  match timeRefusal s with
  | some r => .next (refuse r s)
  | none => if s.inputs.connected then pollConnected s else .next (pollDisconnected s)

end Sys2Proof.Machine
end

