-- ==== Sys2Proof/Machine/QueueOps.lean ====
section
/-! DEFINITION. The meanings of the host operations on the queue (41_command_queue.md R138 to R142). -/

namespace Sys2Proof.Machine

/-- Enqueue a command and answer with EVICTED (R138, R139). -/
def enqueueAnswer (c : Command) (s : State) : State :=
  respond (enqueueResponse (evicts s)) (enqueue c s)

/-- NOP (R141). -/
def execNop (s : State) : Out := .next (respond (queryResponse s) s)

/-- QUERY_EMPTY (R140). -/
def execQueryEmpty (s : State) : Out := .next (respond (queryResponse s) s)

/-- WRITE (R138); LEN is R76's last check. -/
def execWrite (addr : ParamAddr) (value : Byte) (len : BitVec 8) (s : State) : Out :=
  if lengthOk s len then .next (enqueueAnswer (writeCommand addr value len) s)
  else .next (refuse .badLength s)

/-- READ (R139). -/
def execRead (addr : ParamAddr) (probe : Byte) (s : State) : Out :=
  .next (enqueueAnswer (readCommand addr probe) s)

end Sys2Proof.Machine
end

