-- ==== Sys2Proof/Machine/Reserved.lean ====
section
/-! DEFINITION. The meanings of the reserved host opcodes: refused with BAD_OPCODE before any other
field is looked at (30_encoding.md R75, R76 step 1). -/

namespace Sys2Proof.Machine

/-- OP 0x5 (R75). -/
def execReserved5 (_rest : BitVec 60) (s : State) : Out := .next (refuse .badOpcode s)

/-- OP 0x6 (R75). -/
def execReserved6 (_rest : BitVec 60) (s : State) : Out := .next (refuse .badOpcode s)

/-- OP 0x7 (R75). -/
def execReserved7 (_rest : BitVec 60) (s : State) : Out := .next (refuse .badOpcode s)

/-- OP 0x8 (R75). -/
def execReserved8 (_rest : BitVec 60) (s : State) : Out := .next (refuse .badOpcode s)

/-- OP 0x9 (R75). -/
def execReserved9 (_rest : BitVec 60) (s : State) : Out := .next (refuse .badOpcode s)

/-- OP 0xA (R75). -/
def execReservedA (_rest : BitVec 60) (s : State) : Out := .next (refuse .badOpcode s)

/-- OP 0xB (R75). -/
def execReservedB (_rest : BitVec 60) (s : State) : Out := .next (refuse .badOpcode s)

/-- OP 0xC (R75). -/
def execReservedC (_rest : BitVec 60) (s : State) : Out := .next (refuse .badOpcode s)

/-- OP 0xD (R75). -/
def execReservedD (_rest : BitVec 60) (s : State) : Out := .next (refuse .badOpcode s)

/-- OP 0xE (R75). -/
def execReservedE (_rest : BitVec 60) (s : State) : Out := .next (refuse .badOpcode s)

/-- OP 0xF (R75). -/
def execReservedF (_rest : BitVec 60) (s : State) : Out := .next (refuse .badOpcode s)

end Sys2Proof.Machine
end

