-- ==== Sys2Proof/Machine/Dispatch.lean ====
section
/-! DEFINITION. One arm per row of the opcode table. -/

namespace Sys2Proof.Machine

def exec (i : Instr) (s : State) : Host.Outcome State Fault Refusal :=
  match i with
  | .nop => Sys2Proof.Machine.execNop s
  | .write addr value len => Sys2Proof.Machine.execWrite addr value len s
  | .read addr probe => Sys2Proof.Machine.execRead addr probe s
  | .poll => Sys2Proof.Machine.execPoll s
  | .queryEmpty => Sys2Proof.Machine.execQueryEmpty s
  | .reserved5 rest => Sys2Proof.Machine.execReserved5 rest s
  | .reserved6 rest => Sys2Proof.Machine.execReserved6 rest s
  | .reserved7 rest => Sys2Proof.Machine.execReserved7 rest s
  | .reserved8 rest => Sys2Proof.Machine.execReserved8 rest s
  | .reserved9 rest => Sys2Proof.Machine.execReserved9 rest s
  | .reservedA rest => Sys2Proof.Machine.execReservedA rest s
  | .reservedB rest => Sys2Proof.Machine.execReservedB rest s
  | .reservedC rest => Sys2Proof.Machine.execReservedC rest s
  | .reservedD rest => Sys2Proof.Machine.execReservedD rest s
  | .reservedE rest => Sys2Proof.Machine.execReservedE rest s
  | .reservedF rest => Sys2Proof.Machine.execReservedF rest s
  | .writeFrame addr value len => Sys2Proof.Machine.execWriteFrame addr value len s
  | .readFrame addr probe => Sys2Proof.Machine.execReadFrame addr probe s
  | .handshake => Sys2Proof.Machine.execHandshake s
  | .editFrame => Sys2Proof.Machine.execEditFrame s
  | .cin0Terminate cable d1 d2 d3 => Sys2Proof.Machine.execCin0Terminate cable d1 d2 d3 s
  | .cin1Terminate cable d1 d2 d3 => Sys2Proof.Machine.execCin1Terminate cable d1 d2 d3 s
  | .cin2Terminate cable d1 d2 d3 => Sys2Proof.Machine.execCin2Terminate cable d1 d2 d3 s
  | .cin3Terminate cable d1 d2 d3 => Sys2Proof.Machine.execCin3Terminate cable d1 d2 d3 s
  | .cin4 cable d1 d2 d3 => Sys2Proof.Machine.execCin4 cable d1 d2 d3 s
  | .cin5 cable d1 d2 d3 => Sys2Proof.Machine.execCin5 cable d1 d2 d3 s
  | .cin6 cable d1 d2 d3 => Sys2Proof.Machine.execCin6 cable d1 d2 d3 s
  | .cin7 cable d1 d2 d3 => Sys2Proof.Machine.execCin7 cable d1 d2 d3 s
  | .cin8Terminate cable d1 d2 d3 => Sys2Proof.Machine.execCin8Terminate cable d1 d2 d3 s
  | .cin9Terminate cable d1 d2 d3 => Sys2Proof.Machine.execCin9Terminate cable d1 d2 d3 s
  | .cinATerminate cable d1 d2 d3 => Sys2Proof.Machine.execCinATerminate cable d1 d2 d3 s
  | .cinBTerminate cable d1 d2 d3 => Sys2Proof.Machine.execCinBTerminate cable d1 d2 d3 s
  | .cinCTerminate cable d1 d2 d3 => Sys2Proof.Machine.execCinCTerminate cable d1 d2 d3 s
  | .cinDTerminate cable d1 d2 d3 => Sys2Proof.Machine.execCinDTerminate cable d1 d2 d3 s
  | .cinETerminate cable d1 d2 d3 => Sys2Proof.Machine.execCinETerminate cable d1 d2 d3 s
  | .cinFTerminate cable d1 d2 d3 => Sys2Proof.Machine.execCinFTerminate cable d1 d2 d3 s

end Sys2Proof.Machine
end

