-- ==== Sys2Proof/Machine/Fetch.lean ====
section
/-! DEFINITION. What a step takes from the outside world: the oldest stimulus, decoded
(20_memory.md R57, R64; notes/assumptions/2.md); and what it leaves when the operation is over, the
working buffers empty (10_state.md R32). -/

namespace Sys2Proof.Machine

/-- What a step found. -/
inductive Fetched where
  /-- Nothing is asked of the block (R208). -/
  | idle
  /-- A reset pulse (R220). -/
  | reset (s : State)
  /-- No instruction is read. -/
  | rejected (e : DecodeError) (s : State)
  /-- An instruction to execute. -/
  | run (code : Encoded) (i : Instr) (s : State)

/-- The state an operation starts in: its inputs stand, its arrivals are with the transport, the working
buffers hold nothing (R32), and there is no answer yet. -/
def present (inputs : Inputs) (arrivals : List Packet) (rest : List Stimulus) (s : State) : State :=
  clearBuffers
    { s with stream := rest, inputs := inputs, inbox := s.inbox ++ arrivals, answer := .none }

/-- What an operation answers: a codec operation that was not refused answers with what its working
buffer holds, a group operation with what Reassemble gives of a packet that ends there (R110, R114;
notes/assumptions/1.md). -/
def operationAnswer (code : Encoded) (s : State) : Answer :=
  match s.answer, code with
  | .none, .frame _ => .composed s.frameBuf
  | .none, .group _ _ _ _ => .reassembled (endOfGroups s.reasm)
  | a, _ => a

/-- The operation is over: its answer stands, and the working buffers hold nothing (R32). -/
def finish (code : Encoded) (s : State) : State :=
  clearBuffers { s with answer := operationAnswer code s }

/-- `finish` of an outcome. -/
def finishOut (code : Encoded) (o : Out) : Out :=
  match o with
  | .next s => .next (finish code s)
  | .fault f => .fault f
  | .refused r => .refused r

/-- Take the oldest stimulus. -/
def fetch (s : State) : Fetched :=
  match s.stream with
  | [] => .idle
  | .reset :: rest => .reset { s with stream := rest }
  | .operation code inputs arrivals :: rest =>
    match decode s.cfg code with
    | .ok i => .run code i (present inputs arrivals rest s)
    | .error e => .rejected e (present inputs arrivals rest s)

/-- What an encoding without an instruction does: a request is refused as the spec says (R76, R191);
bytes that are no outbound frame stop the model (notes/assumptions/16.md). -/
def reject (e : DecodeError) (s : State) : Out :=
  match e with
  | .reservedBits => .next (refuse .reservedBits s)
  | .notAFrame => .refused .notAnOutboundFrame

/-- Put an operation before everything else the outside world does, its inputs the signals as they
stand. -/
def place (code : Encoded) (s : State) : State :=
  { s with stream := .operation code s.inputs [] :: s.stream }

end Sys2Proof.Machine
end

