-- ==== Sys2Proof/Machine/Step.lean ====
section
/-! DEFINITION. One step: one host operation, one codec operation, or a reset pulse (20_memory.md R57). -/

namespace Sys2Proof.Machine

/-- The step. -/
def step (s : State) : Host.Outcome State Fault Refusal :=
  match fetch s with
  | .idle => .next s
  | .reset s1 => .next (hardReset s1)
  | .rejected e s1 => reject e s1
  | .run code i s1 => finishOut code (exec i s1)

/-- The state whose next step runs the instruction of a table row's bits (notes/assumptions/2.md, 13.md). -/
def State.withFetchWord (s : State) (nbits w : Nat) : State := place (encodedOfTableWord nbits w) s

end Sys2Proof.Machine
end

