-- ==== Sys2Proof/Safety.lean ====
section
/-! DEFINITION. What counts as a safe state and what statements call unchanged. -/

namespace Sys2Proof.Machine

/-- Every queued command is legal (R36 (d)). -/
def QueueLegal (cfg : Config) (q : List Command) : Prop :=
  ∀ c ∈ q, LegalLen cfg c.len ∧ (c.op = .read → c.len = readLen)

/-- The invariants of R36, (a) to (e), under a legal configuration (R9, R30). -/
structure StateInv (s : State) : Prop where
  /-- The configuration is legal (R9). -/
  cfg_legal : s.cfg.Legal
  /-- (a) -/
  queue_bounded : s.queue.length ≤ s.cfg.queueN
  /-- (b) -/
  ctrl_used : s.ctrlState ≠ 0b11
  /-- (c) -/
  hs_used : s.ctrlState = ctrlHandshaking → s.hsStep = 1 ∨ s.hsStep = 2 ∨ s.hsStep = 3
  /-- (d) -/
  queue_legal : QueueLegal s.cfg s.queue
  /-- (e) -/
  time_fits : s.nextTime ≤ s.cfg.maxTime

/-- The hardware state is the same: R220's elements but for the bookkeeping, and the static
configuration (R191, R197). -/
def SameHardware (s t : State) : Prop :=
  t.cfg = s.cfg ∧ t.ctrlState = s.ctrlState ∧ t.hsStep = s.hsStep ∧ t.nextTime = s.nextTime ∧
    t.queue = s.queue

/-- The controller's part is the same (R142): every register but the queue, `last_now`, and the
configuration. -/
def SameController (s t : State) : Prop :=
  t.cfg = s.cfg ∧ t.ctrlState = s.ctrlState ∧ t.hsStep = s.hsStep ∧ t.nextTime = s.nextTime ∧
    t.lastNow = s.lastNow

/-- The working buffers are the same (R32). -/
def SameBuffers (s t : State) : Prop :=
  t.frameBuf = s.frameBuf ∧ t.reasm = s.reasm ∧ t.rxGroups = s.rxGroups

/-- The working buffers hold nothing (R32). -/
def BuffersEmpty (s : State) : Prop := s.frameBuf = [] ∧ s.reasm = ⟨[], none⟩ ∧ s.rxGroups = 0

/-- The working buffers are within R32's bounds: the reassembly buffer holds at most three bytes a group,
and the groups are at most RX_MAX_BYTES long. -/
def BuffersFit (s : State) : Prop :=
  s.frameBuf.length ≤ max 15 (14 + s.cfg.maxPayload) ∧ s.reasm.bytes.length ≤ 3 * s.rxGroups ∧
    4 * s.rxGroups ≤ s.cfg.rxMaxBytes

/-- The outside world is the same: the transport's packets, the signals, and what comes next. -/
def SameOutside (s t : State) : Prop :=
  t.inbox = s.inbox ∧ t.inputs = s.inputs ∧ t.stream = s.stream

/-- The refusal mark after a refusal: the first reason stays (R191). -/
def markAfter (r : Reason) (s : State) : Option Reason :=
  if s.refused = none then some r else s.refused

/-- The response word of R72 as arithmetic on its fields' values. -/
def answerWord (result : Nat) (txErr qEmpty evicted : Bool) (value : Byte) (addr : ParamAddr) :
    ResponseWord :=
  BitVec.ofNat 64 (result + 8 * txErr.toNat + 16 * qEmpty.toNat + 32 * evicted.toNat +
    2 ^ 8 * value.toNat + 2 ^ 32 * addr.toNat)

/-- A POLL's answer without a decoded frame: RESULT, TX_ERR, and Q_EMPTY of the queue it leaves. -/
def pollAnswer (result : Nat) (txErr : Bool) (q : List Command) : Answer :=
  .response (answerWord result txErr (decide (q = [])) false 0 0)

/-- `Now` does not go back and is not near the top of its range (R150, R168). -/
def Timely (s : State) : Prop :=
  (∀ t, s.lastNow = some t → t ≤ s.inputs.now) ∧ s.inputs.now + s.cfg.maxWait ≤ s.cfg.maxTime

/-- A POLL that reaches the case of `ctrl_state` with the transport connected (R154). -/
def PollAt (ctrl : BitVec 2) (s : State) : Prop :=
  Timely s ∧ s.inputs.connected = true ∧ s.ctrlState = ctrl

/-- The next step is a POLL that samples this answer of `Connected()` (R151). -/
def PollsNext (connected : Bool) (s : State) : Prop :=
  ∃ code inputs arrivals rest, s.stream = .operation code inputs arrivals :: rest ∧
    decode s.cfg code = .ok .poll ∧ inputs.connected = connected

/-- `Receive()` returns the packet `p` and leaves the transport with `rest` (R59, R152). -/
def Receives (s : State) (p : Packet) (rest : List Packet) : Prop :=
  s.inputs.offers = true ∧ s.inbox = p :: rest

/-- The receive of a READY cycle gives no value: no packet, or one that does not decode, and the
transport is left with `rest` (R161, R173). -/
def NothingDecoded (s : State) (rest : List Packet) : Prop :=
  ((s.inputs.offers = false ∨ s.inbox = []) ∧ rest = s.inbox) ∨
    ∃ p, Receives s p rest ∧ p.length ≤ s.cfg.rxMaxBytes ∧ decodePacket s.cfg p = none

/-- The frames a list of events hands to the transport (R214). -/
def txFrames : List Event → List Frame
  | [] => []
  | .tx f :: es => f :: txFrames es
  | .rx _ _ :: es => txFrames es
  | .evict _ :: es => txFrames es
  | .state _ :: es => txFrames es

/-- R76's checks of a request word, in its order, on the numbers of R71's fields: the reason of the
refusal, or none for a well-formed request. -/
def requestVerdict (cfg : Config) (w : RequestWord) : Option Reason :=
  let op := w.toNat % 16
  let rsv0 := w.toNat / 2 ^ 4 % 16
  let len := w.toNat / 2 ^ 8 % 256
  let value := w.toNat / 2 ^ 16 % 256
  let rsv1 := w.toNat / 2 ^ 24 % 256
  let addr := w.toNat / 2 ^ 32
  if 5 ≤ op then some .badOpcode
  else if rsv0 ≠ 0 ∨ rsv1 ≠ 0 then some .reservedBits
  else if (op = 0 ∨ op = 3 ∨ op = 4) ∧ (len ≠ 0 ∨ value ≠ 0 ∨ addr ≠ 0) then some .reservedBits
  else if op = 2 ∧ len ≠ 0 then some .reservedBits
  else if op = 1 ∧ (len = 0 ∨ cfg.maxPayload < len) then some .badLength
  else none

/-- The reassembly buffer after a group that gives these data bytes: what is already stopped stays, END
is the last byte taken (R110, R112, R113). -/
def afterGroup (data : List Byte) (r : Reassembly) : Reassembly :=
  if r.term = none then
    if endByte ∈ data then ⟨r.bytes ++ data.takeWhile (· ≠ endByte) ++ [endByte], some .endSeen⟩
    else ⟨r.bytes ++ data, none⟩
  else r

/-- The reassembly buffer after a group whose CIN is outside 4..7 (R112). -/
def afterTerminator (r : Reassembly) : Reassembly :=
  if r.term = none then ⟨r.bytes, some .stoppedByCin⟩ else r

/-- A group's four bytes. -/
def groupBytes (g : EventGroup) : List Byte := [g.1, g.2.1, g.2.2.1, g.2.2.2]

/-- The data bytes a group's CIN takes (R83). -/
def groupData (g : EventGroup) : List Byte := [g.2.1, g.2.2.1, g.2.2.2].take (cinCount (groupCin g.1))

/-- A packetisation of a frame: groups of CIN 4 to 7 whose data bytes begin with the frame's bytes, in
order (R122). -/
def Packs (gs : List EventGroup) (f : Frame) : Prop :=
  (∀ g ∈ gs, cinCount (groupCin g.1) ≠ 0) ∧ f <+: gs.flatMap groupData

/-- `exec` of a list of instructions, one after the other, stopping at the first that gives no next
state. -/
def execAll : List Instr → State → Out
  | [], s => .next s
  | i :: is, s =>
    match exec i s with
    | .next t => execAll is t
    | .fault r => .fault r
    | .refused r => .refused r

/-- A POLL request with the transport connected, nothing received, and this `Now` (R150 to R153). -/
def connectedPoll (now : Nat) (sendOk : Bool) : Stimulus :=
  .operation (.request 0x3) ⟨now, true, false, sendOk⟩ []

end Sys2Proof.Machine
end

