-- ==== Sys2Proof/Certificates/Slice0/Obligations.lean ====
section
/-! DEFINITION. The statements about the model. -/

open Sys2Proof Sys2Proof.Machine

/-! ### Encodings (30_encoding.md) -/

/-- R71, R73, R77, R80 to R83: decoding an instruction's encoding gives the instruction, for every operand. -/
def Obligations.DecodeEncodeRoundTrip : Prop :=
  ∀ (cfg : Config) (i : Instr), WellFormed cfg i = true → decode cfg (encode cfg i) = .ok i

/-- Each encoding stands for one instruction, and no bit of it is dropped. -/
def Obligations.DecodedEncodingIsUnique : Prop :=
  ∀ (cfg : Config) (e : Encoded) (i : Instr), decode cfg e = .ok i → encode cfg i = e

/-- R71, R74: a WRITE's or READ's operands are the numbers in the request word's fields. -/
def Obligations.RequestOperandFields : Prop :=
  ∀ w : RequestWord,
    (w.toNat % 256 = 1 → w.toNat / 2 ^ 24 % 256 = 0 → ∃ addr value len,
      decodeRequest w = .ok (.write addr value len) ∧ addr.toNat = w.toNat / 2 ^ 32 ∧
        value.toNat = w.toNat / 2 ^ 16 % 256 ∧ len.toNat = w.toNat / 2 ^ 8 % 256) ∧
    (w.toNat % 65536 = 2 → w.toNat / 2 ^ 24 % 256 = 0 → ∃ addr probe,
      decodeRequest w = .ok (.read addr probe) ∧ addr.toNat = w.toNat / 2 ^ 32 ∧
        probe.toNat = w.toNat / 2 ^ 16 % 256)

/-- V-H1 to V-H11, V-D8: words written out from R71 and R82. -/
def Obligations.SpecWordsDecode : Prop :=
  decodeRequest 0x0000000000000000 = .ok .nop ∧
  decodeRequest 0x6000001000400201 = .ok (.write 0x60000010 0x40 2) ∧
  decodeRequest 0x1000000000100002 = .ok (.read 0x10000000 0x10) ∧
  decodeRequest 0x0000000000000003 = .ok .poll ∧
  decodeRequest 0x0000000000000004 = .ok .queryEmpty ∧
  decodeRequest 0x00000000000000FF = .ok (.reservedF 0xF) ∧
  decodeRequest 0x0000000000000013 = .error .reservedBits ∧
  decodeRequest 0x1000000000100402 = .error .reservedBits ∧
  decodeGroup 0x09 0x90 0x40 0x7F = .cin9Terminate 0 0x90 0x40 0x7F

/-- R76: the order of the request-word checks; a request that fails one is refused with its reason and
changes nothing else, and one that passes all is read as a well-formed instruction. That a refusal is a
next state is the model's choice (notes/assumptions/3.md). -/
def Obligations.RequestChecksInOrder : Prop :=
  ∀ (s : State) (w : RequestWord) (inputs : Inputs) (arrivals : List Packet) (rest : List Stimulus),
    s.stream = .operation (.request w) inputs arrivals :: rest →
    (∀ r, requestVerdict s.cfg w = some r → ∃ t, step s = .next t ∧ t.answer = .refused r ∧
      t.refused = markAfter r s ∧ SameHardware s t ∧ t.lastNow = s.lastNow ∧ t.trace = s.trace) ∧
    (requestVerdict s.cfg w = none → ∃ i, decodeRequest w = .ok i ∧ WellFormed s.cfg i = true)

/-- R75: every reserved opcode is refused with BAD_OPCODE, whatever the other bits, and changes only the
mark and the answer. That a refusal is a next state is the model's choice (notes/assumptions/3.md). -/
def Obligations.ReservedOpcodesRefused : Prop :=
  ∀ (s : State) (rest : BitVec 60) (i : Instr),
    i ∈ [.reserved5 rest, .reserved6 rest, .reserved7 rest, .reserved8 rest, .reserved9 rest,
      .reservedA rest, .reservedB rest, .reservedC rest, .reservedD rest, .reservedE rest,
      .reservedF rest] →
    exec i s = .next { s with refused := markAfter .badOpcode s, answer := .refused .badOpcode }

/-- R72: the response word's layout, reserved bits included. -/
def Obligations.ResponseWordLayout : Prop :=
  ∀ r : Response,
    responseWord r =
      answerWord (resultCode r.result).toNat r.txErr r.qEmpty r.evicted r.rxValue r.rxAddr ∧
    (resultCode r.result).toNat ≤ 4 ∧
    (responseWord r).extractLsb' 6 2 = 0 ∧ (responseWord r).extractLsb' 16 16 = 0

/-! ### Steps, reset and whole-machine rules -/

/-- R57, R70, R32 (the stream, the buffers and the answer: notes/assumptions/1.md, 2.md, 10.md, 11.md): a
step is `exec` of the decoded instruction in the state the operation starts in, with empty working buffers;
when it is over the answer stands and the buffers are empty again. -/
def Obligations.StepRunsDecodedInstruction : Prop :=
  ∀ (s : State) (code : Encoded) (inputs : Inputs) (arrivals : List Packet) (rest : List Stimulus)
    (i : Instr), s.stream = .operation code inputs arrivals :: rest → decode s.cfg code = .ok i →
    let o := exec i { s with
      stream := rest, inputs := inputs, inbox := s.inbox ++ arrivals, answer := .none,
      frameBuf := [], reasm := ⟨[], none⟩, rxGroups := 0 }
    (∀ u, o = .next u → step s = .next { u with
      frameBuf := [], reasm := ⟨[], none⟩, rxGroups := 0, answer := operationAnswer code u }) ∧
    (∀ f, o = .fault f → step s = .fault f) ∧ ∀ r, o = .refused r → step s = .refused r

/-- R208: with nothing asked of it the block holds its state (notes/assumptions/15.md). -/
def Obligations.IdleStepChangesNothing : Prop :=
  ∀ s : State, s.stream = [] → step s = .next s

/-- R220, R221: what a reset pulse writes and what it leaves. -/
def Obligations.ResetPulseWritesResetValues : Prop :=
  ∀ (s : State) (rest : List Stimulus), s.stream = .reset :: rest → ∃ t, step s = .next t ∧
    t.ctrlState = ctrlDisconnected ∧ t.hsStep = 1 ∧ t.nextTime = 0 ∧ t.queue = [] ∧ t.lastNow = none ∧
    t.cfg = s.cfg ∧ t.refused = s.refused ∧ t.trace = s.trace ∧ t.inbox = s.inbox

/-- R31, R36, R220: the state right after reset, under every legal configuration; the defaults of R9 are
legal with the WIRE_ID and TIME_W chosen in notes/assumptions/4.md and 5.md. -/
def Obligations.ResetStateMeetsInvariant : Prop :=
  (∀ cfg : Config, cfg.Legal → StateInv (State.resetWith cfg) ∧ (State.resetWith cfg).refused = none ∧
    (State.resetWith cfg).trace = [] ∧ (State.resetWith cfg).lastNow = none) ∧
  Config.defaults.Legal ∧ State.reset = State.resetWith Config.defaults

/-- R36: every step keeps the invariants (a) to (e). -/
def Obligations.StepKeepsInvariant : Prop :=
  ∀ s t : State, StateInv s → step s = .next t → StateInv t

/-- From a state that meets R36 no step faults, and every request completes or is refused with a next
state. R190 and R197 leave no trap and no stop; that a refused request is a next state is the model's
choice (notes/assumptions/3.md: R191 says the step returns the refusal outcome, not a next hardware state),
and so is the one stop, bytes that are no frame (notes/assumptions/16.md). -/
def Obligations.SafeStatesNeverStop : Prop :=
  ∀ s : State, StateInv s →
    (∃ t, step s = .next t) ∨
      (step s = .refused .notAnOutboundFrame ∧
        ∃ bytes inputs arrivals rest, s.stream = .operation (.frame bytes) inputs arrivals :: rest ∧
          decode s.cfg (.frame bytes) = .error .notAFrame)

/-- R30, R37: the configuration is static. -/
def Obligations.ConfigurationIsStatic : Prop :=
  ∀ s t : State, step s = .next t → t.cfg = s.cfg

/-- R193: the refusal mark is sticky, through operations and reset. -/
def Obligations.RefusalMarkIsSticky : Prop :=
  ∀ (s t : State) (r : Reason), step s = .next t → s.refused = some r → t.refused = some r

/-- R191, R197: a step that ends in a refusal sets the mark and changes no hardware state and no event;
that it leaves `last_now` after RX_TOO_LONG too is the model's reading (notes/assumptions/9.md), and that
it is a next state is the model's choice (notes/assumptions/3.md). -/
def Obligations.RefusalKeepsHardwareState : Prop :=
  ∀ (s t : State) (r : Reason), s.stream ≠ [] → step s = .next t → t.answer = .refused r →
    SameHardware s t ∧ t.lastNow = s.lastNow ∧ t.trace = s.trace ∧ t.refused = markAfter r s

/-- R214: events are only appended. -/
def Obligations.TraceOnlyGrows : Prop :=
  ∀ s t : State, step s = .next t → s.trace <+: t.trace

/-- R150: the recorded time never goes back between resets. -/
def Obligations.LastNowNeverGoesBack : Prop :=
  ∀ (s t : State) (a : Nat), step s = .next t → s.stream.head? ≠ some .reset → s.lastNow = some a →
    ∃ b, t.lastNow = some b ∧ a ≤ b

/-- R72, R137: Q_EMPTY in every response tells whether the queue is empty after the operation. -/
def Obligations.QEmptyBitTellsQueue : Prop :=
  ∀ (s t : State) (w : ResponseWord), s.stream ≠ [] → step s = .next t → t.answer = .response w →
    w.getLsbD 4 = decide (t.queue = [])

/-- R136: the only ways a step other than a reset changes the queue. -/
def Obligations.QueueChangesOnlyByEnqueueEvictSend : Prop :=
  ∀ s t : State, step s = .next t → s.stream.head? ≠ some .reset →
    t.queue = s.queue ∨
    (∃ c, t.queue = s.queue ++ [c]) ∨
    (∃ old rest c, s.queue = old :: rest ∧ t.queue = rest ++ [c] ∧ t.trace = s.trace ++ [.evict old]) ∨
    (∃ c rest, s.queue = c :: rest ∧ t.queue = rest ∧
      t.trace = s.trace ++ [.tx (encodeCommand s.cfg c)])

/-- R21, R37, R200: no instruction but POLL writes the controller's registers, takes a packet, or hands a
frame to the transport. -/
def Obligations.OnlyPollTouchesController : Prop :=
  ∀ (i : Instr) (s t : State), i ≠ .poll → exec i s = .next t →
    SameController s t ∧ SameOutside s t ∧ ∃ es, t.trace = s.trace ++ es ∧ txFrames es = []

/-- R156, R157, R166, R220: HANDSHAKING is entered only from DISCONNECTED, by a POLL that samples
`Connected() = true`; READY is left only for DISCONNECTED, by a POLL that samples `Connected() = false` or
by a reset pulse. -/
def Obligations.NoReadyToHandshaking : Prop :=
  ∀ s t : State, step s = .next t →
    (t.ctrlState = ctrlHandshaking → s.ctrlState = ctrlHandshaking ∨
      (s.ctrlState = ctrlDisconnected ∧ PollsNext true s)) ∧
    (s.ctrlState = ctrlReady → t.ctrlState = ctrlReady ∨
      (t.ctrlState = ctrlDisconnected ∧ (s.stream.head? = some .reset ∨ PollsNext false s)))

/-! ### Queue operations (41_command_queue.md) -/

/-- R131, R132, R133: WRITE and READ enqueue their command in every state; at capacity the oldest entry is
dropped, with an EVICT event and EVICTED in the response. -/
def Obligations.WriteAndReadEnqueue : Prop :=
  ∀ (s : State) (i : Instr) (c : Command),
    ((∃ addr value len, i = .write addr value len ∧ LegalLen s.cfg len ∧ c = ⟨addr, value, len, .write⟩) ∨
      ∃ addr probe, i = .read addr probe ∧ c = ⟨addr, probe, 4, .read⟩) →
    (s.queue.length ≠ s.cfg.queueN → exec i s = .next { s with
      queue := s.queue ++ [c], answer := .response 0 }) ∧
    (∀ old rest, s.queue.length = s.cfg.queueN → s.queue = old :: rest → exec i s = .next { s with
      queue := rest ++ [c], trace := s.trace ++ [.evict old], answer := .response 0x20 })

/-- R76, R87 (c): a WRITE with LEN outside 1..MAX_PAYLOAD is refused with BAD_LENGTH and enqueues nothing
(the refusal as a next state: notes/assumptions/3.md). -/
def Obligations.WriteBadLengthRefused : Prop :=
  ∀ (s : State) (addr : ParamAddr) (value : Byte) (len : BitVec 8),
    len.toNat = 0 ∨ s.cfg.maxPayload < len.toNat →
    exec (.write addr value len) s =
      .next { s with refused := markAfter .badLength s, answer := .refused .badLength }

/-- R140, R141: QUERY_EMPTY and NOP only answer, with Q_EMPTY. -/
def Obligations.QueryAndNopOnlyAnswer : Prop :=
  ∀ (s : State) (i : Instr), i = .queryEmpty ∨ i = .nop →
    exec i s = .next { s with answer := .response (if s.queue = [] then 0x10 else 0x00) }

/-- R142: WRITE, READ, QUERY_EMPTY and NOP leave the controller's registers alone and neither sample nor
touch the transport's signals and packets: with other signals and packets they do the same. -/
def Obligations.QueueOperationsIgnoreTransport : Prop :=
  ∀ (i : Instr) (s t : State),
    (i = .nop ∨ i = .queryEmpty ∨ (∃ addr value len, i = .write addr value len) ∨
      ∃ addr probe, i = .read addr probe) →
    exec i s = .next t →
    SameController s t ∧ SameBuffers s t ∧ SameOutside s t ∧
    (∃ es, t.trace = s.trace ++ es ∧ txFrames es = []) ∧
    ∀ (inputs : Inputs) (inbox : List Packet),
      exec i { s with inputs := inputs, inbox := inbox } =
        .next { t with inputs := inputs, inbox := inbox }

/-- R143: three commands enqueued on an empty queue are dequeued in that order. -/
def Obligations.QueueIsFifo : Prop :=
  ∀ (s : State) (c1 c2 c3 : Command), s.queue = [] → 3 ≤ s.cfg.queueN →
    ∃ s1 s2 s3, dequeue (enqueue c3 (enqueue c2 (enqueue c1 s))) = some (c1, s1) ∧
      dequeue s1 = some (c2, s2) ∧ dequeue s2 = some (c3, s3) ∧ s3.queue = []

/-- R144: QUEUE_N + 1 commands enqueued on an empty queue lose the first, and only the last enqueue
evicts, with one EVICT event. -/
def Obligations.OverflowEvictsTheFirst : Prop :=
  ∀ (s : State) (c1 last : Command) (cs : List Command),
    s.queue = [] → cs.length + 1 = s.cfg.queueN →
    (∀ k < s.cfg.queueN, evicts (((c1 :: cs).take k).foldl (fun u c => enqueue c u) s) = false) ∧
    evicts ((c1 :: cs).foldl (fun u c => enqueue c u) s) = true ∧
    (enqueue last ((c1 :: cs).foldl (fun u c => enqueue c u) s)).queue = cs ++ [last] ∧
    (enqueue last ((c1 :: cs).foldl (fun u c => enqueue c u) s)).trace = s.trace ++ [.evict c1]

/-! ### POLL (42_dispatch.md) -/

/-- R150, R195: a POLL whose `Now` is below the last completed POLL's is refused, before any other check
of the POLL (the refusal as a next state: notes/assumptions/3.md). -/
def Obligations.PollRefusesEarlierTime : Prop :=
  ∀ (s : State) (t : Nat), s.lastNow = some t → s.inputs.now < t →
    exec .poll s =
      .next { s with refused := markAfter .nonmonotonicTime s, answer := .refused .nonmonotonicTime }

/-- R168: a POLL near the top of the time range is refused (as a next state: notes/assumptions/3.md), and
every write of `next_time` by an instruction is `Now + d` with `d` a configured interval, so it never
wraps. -/
def Obligations.TimerLoadsNeverWrap : Prop :=
  (∀ s : State, (∀ t, s.lastNow = some t → t ≤ s.inputs.now) →
    s.cfg.maxTime < s.inputs.now + s.cfg.maxWait →
    exec .poll s =
      .next { s with refused := markAfter .timeOverflow s, answer := .refused .timeOverflow }) ∧
  ∀ (i : Instr) (s t : State), exec i s = .next t → t.nextTime ≠ s.nextTime →
    t.nextTime ≤ s.cfg.maxTime ∧
    ∃ d ∈ [s.cfg.hsDelay, s.cfg.initDelay, s.cfg.receiveInterval, s.cfg.readInterval,
      s.cfg.writeInterval], t.nextTime = s.inputs.now + d

/-- R156: a POLL that finds the transport not connected, in every state. -/
def Obligations.PollDisconnectedGoesDown : Prop :=
  ∀ s : State, Timely s → s.inputs.connected = false →
    exec .poll s = .next { s with
      ctrlState := ctrlDisconnected,
      trace := s.trace ++ (if s.ctrlState = ctrlDisconnected then [] else [.state ctrlDisconnected]),
      lastNow := some s.inputs.now,
      answer := pollAnswer 2 false s.queue }

/-- R157: the POLL that finds the connection sends the first HANDSHAKE frame at once. -/
def Obligations.PollConnectStartsHandshake : Prop :=
  ∀ s : State, PollAt ctrlDisconnected s →
    exec .poll s = .next { s with
      ctrlState := ctrlHandshaking, hsStep := 1, nextTime := s.inputs.now + s.cfg.hsDelay,
      trace := s.trace ++ [.state ctrlHandshaking, .tx handshakeFrame],
      lastNow := some s.inputs.now,
      answer := pollAnswer 2 (!s.inputs.sendOk) s.queue }

/-- R167: in HANDSHAKING nothing happens before `next_time`. -/
def Obligations.PollHandshakeWaits : Prop :=
  ∀ s : State, PollAt ctrlHandshaking s → s.inputs.now < s.nextTime →
    exec .poll s = .next { s with
      lastNow := some s.inputs.now, answer := pollAnswer 2 false s.queue }

/-- R158, R80: the second HANDSHAKE frame, the 15 bytes of the literal. -/
def Obligations.PollSendsSecondHandshake : Prop :=
  ∀ s : State, PollAt ctrlHandshaking s → s.hsStep = 1 → s.nextTime ≤ s.inputs.now →
    exec .poll s = .next { s with
      hsStep := 2, nextTime := s.inputs.now + s.cfg.hsDelay,
      trace := s.trace ++ [.tx [0xF0, 0x7E, 0x00, 0x06, 0x02, 0x41, 0x3B, 0x03, 0x00, 0x00, 0x00, 0x00,
        0x00, 0x00, 0xF7]],
      lastNow := some s.inputs.now,
      answer := pollAnswer 2 (!s.inputs.sendOk) s.queue }

/-- R159, R81: the edit-mode frame, its bytes written out, not through the queue. -/
def Obligations.PollSendsEditFrame : Prop :=
  ∀ s : State, PollAt ctrlHandshaking s → s.hsStep = 2 → s.nextTime ≤ s.inputs.now →
    exec .poll s = .next { s with
      hsStep := 3, nextTime := s.inputs.now + s.cfg.initDelay,
      trace := s.trace ++ [.tx ([0xF0] ++ s.cfg.wireId.bytes ++
        [0x12, 0x7F, 0x00, 0x00, 0x01, 0x01, 0x7F, 0xF7])],
      lastNow := some s.inputs.now,
      answer := pollAnswer 2 (!s.inputs.sendOk) s.queue }

/-- R160, R171: the POLL that becomes READY does nothing else: no send, and no packet is taken. -/
def Obligations.PollBecomesReady : Prop :=
  ∀ s : State, PollAt ctrlHandshaking s → s.hsStep = 3 → s.nextTime ≤ s.inputs.now →
    exec .poll s = .next { s with
      ctrlState := ctrlReady,
      trace := s.trace ++ [.state ctrlReady],
      lastNow := some s.inputs.now,
      answer := pollAnswer 3 false s.queue }

/-- R161, R162: a decoded packet is returned and reloads the timer, whatever the timer and the queue. -/
def Obligations.PollReturnsDecodedValue : Prop :=
  ∀ (s : State) (p : Packet) (rest : List Packet) (addr : ParamAddr) (value : Byte),
    PollAt ctrlReady s → Receives s p rest → p.length ≤ s.cfg.rxMaxBytes →
    decodePacket s.cfg p = some (addr, value) →
    exec .poll s = .next { s with
      nextTime := s.inputs.now + s.cfg.receiveInterval,
      trace := s.trace ++ [.rx addr value],
      inbox := rest,
      lastNow := some s.inputs.now,
      answer := .response (answerWord 4 false (decide (s.queue = [])) false value addr) }

/-- R163, R164, R173: with nothing decoded and the timer expired, the oldest command is sent, once, and the
timer is loaded by its operation whether or not the send failed. -/
def Obligations.PollDispatchesOldest : Prop :=
  ∀ (s : State) (inbox : List Packet) (c : Command) (rest : List Command),
    PollAt ctrlReady s → NothingDecoded s inbox → s.nextTime ≤ s.inputs.now → s.queue = c :: rest →
    LegalLen s.cfg c.len →
    exec .poll s = .next { s with
      queue := rest,
      nextTime := s.inputs.now + (if c.op = .read then s.cfg.readInterval else s.cfg.writeInterval),
      trace := s.trace ++ [.tx (encodeCommand s.cfg c)],
      inbox := inbox,
      lastNow := some s.inputs.now,
      answer := pollAnswer 1 (!s.inputs.sendOk) rest }

/-- R165, R173: with nothing decoded and nothing to send, only `last_now` changes, and a packet that does
not decode is consumed. -/
def Obligations.PollIdles : Prop :=
  ∀ (s : State) (inbox : List Packet),
    PollAt ctrlReady s → NothingDecoded s inbox → s.inputs.now < s.nextTime ∨ s.queue = [] →
    exec .poll s = .next { s with
      inbox := inbox, lastNow := some s.inputs.now, answer := pollAnswer 1 false s.queue }

/-- R152, R191, R195: a packet over RX_MAX_BYTES refuses the POLL before any dispatch; the packet is not
given back (`last_now`: notes/assumptions/9.md; the refusal as a next state: notes/assumptions/3.md). -/
def Obligations.PollRefusesLongPacket : Prop :=
  ∀ (s : State) (p : Packet) (rest : List Packet),
    PollAt ctrlReady s → Receives s p rest → s.cfg.rxMaxBytes < p.length →
    exec .poll s = .next { s with
      inbox := rest, refused := markAfter .rxTooLong s, answer := .refused .rxTooLong }

/-- R21, R23, R36 (notes/assumptions/8.md): where R154 has no case the model faults. -/
def Obligations.PollFaultsWithoutCase : Prop :=
  ∀ s : State,
    (PollAt 0b11 s → exec .poll s = .fault .ctrlStateUnused) ∧
    (PollAt ctrlHandshaking s → s.hsStep = 0 → s.nextTime ≤ s.inputs.now →
      exec .poll s = .fault .hsStepUnused) ∧
    (∀ (inbox : List Packet) (c : Command) (rest : List Command),
      PollAt ctrlReady s → NothingDecoded s inbox → s.nextTime ≤ s.inputs.now → s.queue = c :: rest →
      ¬LegalLen s.cfg c.len → exec .poll s = .fault .illegalLength)

/-- R155: RESULT of a completed POLL tells the controller's state. -/
def Obligations.PollResultTellsState : Prop :=
  ∀ (s t : State) (w : ResponseWord), exec .poll s = .next t → t.answer = .response w →
    (w.toNat % 8 = 2 ∧ (t.ctrlState = ctrlDisconnected ∨ t.ctrlState = ctrlHandshaking)) ∨
    (w.toNat % 8 = 3 ∧ s.ctrlState = ctrlHandshaking ∧ t.ctrlState = ctrlReady) ∨
    ((w.toNat % 8 = 1 ∨ w.toNat % 8 = 4) ∧ s.ctrlState = ctrlReady ∧ t.ctrlState = ctrlReady)

/-- R170, R172: a POLL sends at most one frame and takes at most one packet, the oldest, and takes one only
in READY. -/
def Obligations.PollSendsAndTakesAtMostOne : Prop :=
  ∀ s t : State, exec .poll s = .next t →
    (∃ es, t.trace = s.trace ++ es ∧ (txFrames es).length ≤ 1) ∧
    (t.inbox = s.inbox ∨ (s.ctrlState = ctrlReady ∧ ∃ p, s.inbox = p :: t.inbox))

/-- R25, R167: except for the first HANDSHAKE frame of a connection, no frame is sent while `Now` is below
`next_time`. -/
def Obligations.NoFrameBeforeNextTime : Prop :=
  ∀ (s t : State) (es : List Event), exec .poll s = .next t → t.trace = s.trace ++ es →
    s.inputs.now < s.nextTime → s.ctrlState ≠ ctrlDisconnected → txFrames es = []

/-- R153, R169: the transport's send answer shows in TX_ERR alone: with the other answer a POLL does the
same, so no command is put back and no handshake stops, and it answers the same refusal, or the same
response word but for bit 3; that bit is 1 exactly where a frame was sent and the answer was err. -/
def Obligations.SendFailureShowsOnlyInTxErr : Prop :=
  ∀ (s t : State) (ok : Bool), exec .poll s = .next t →
    (∃ a, exec .poll { s with inputs := { s.inputs with sendOk := ok } } =
      .next { t with inputs := { t.inputs with sendOk := ok }, answer := a } ∧
      ((∃ r, t.answer = .refused r ∧ a = .refused r) ∨
        ∃ w w', t.answer = .response w ∧ a = .response w' ∧ ∀ k, k ≠ 3 → w'.getLsbD k = w.getLsbD k)) ∧
    ∀ (w : ResponseWord) (es : List Event), t.answer = .response w → t.trace = s.trace ++ es →
      w.getLsbD 3 = (decide (txFrames es ≠ []) && !s.inputs.sendOk)

/-- R63, R157 to R160, R178, R235: four connected POLLs spaced by the delays bring the block from
DISCONNECTED to READY and put exactly the three handshake frames on the wire, in order; the queue is
untouched. -/
def Obligations.HandshakeCompletesInOrder : Prop :=
  ∀ (s : State) (t0 t1 t2 t3 : Nat) (b0 b1 b2 b3 : Bool),
    s.ctrlState = ctrlDisconnected →
    s.stream = [connectedPoll t0 b0, connectedPoll t1 b1, connectedPoll t2 b2, connectedPoll t3 b3] →
    (∀ t, s.lastNow = some t → t ≤ t0) → t0 + s.cfg.hsDelay ≤ t1 → t1 + s.cfg.hsDelay ≤ t2 →
    t2 + s.cfg.initDelay ≤ t3 → t3 + s.cfg.maxWait ≤ s.cfg.maxTime →
    ∃ t : State, core.run 4 s = .next t ∧ t.ctrlState = ctrlReady ∧ t.queue = s.queue ∧
      t.answer = pollAnswer 3 false s.queue ∧
      t.trace = s.trace ++ [.state ctrlHandshaking, .tx handshakeFrame, .tx handshakeFrame,
        .tx (encodeCommand s.cfg editCommand), .state ctrlReady]

/-! ### Frame Codec (40_frame_codec.md) -/

/-- R77, R79, R50, R102, R103: the frame of a command, position by position. -/
def Obligations.EncodedFrameLayout : Prop :=
  ∀ (cfg : Config) (c : Command), 1 ≤ c.len.toNat →
    let f := encodeCommand cfg c
    let L := c.len.toNat
    f.length = 14 + L ∧ f[0]? = some 0xF0 ∧ (f.drop 1).take 6 = cfg.wireId.bytes ∧
    f[7]? = some (if c.op = .read then 0x11 else 0x12) ∧
    f[8]? = some (c.addr.extractLsb 31 24) ∧ f[9]? = some (c.addr.extractLsb 23 16) ∧
    f[10]? = some (c.addr.extractLsb 15 8) ∧ f[11]? = some (c.addr.extractLsb 7 0) ∧
    (f.drop 12).take L = List.replicate (L - 1) 0 ++ [c.value] ∧
    (∃ b, f[12 + L]? = some b ∧
      b.toNat = (128 - (((f.drop 8).take (4 + L)).map BitVec.toNat).sum % 128) % 128) ∧
    f[13 + L]? = some 0xF7

/-- R108: the window and the checksum sum to 0 mod 128. -/
def Obligations.ChecksumSumsToZero : Prop :=
  ∀ (cfg : Config) (c : Command), 1 ≤ c.len.toNat →
    (((encodeCommand cfg c).drop 8).take (5 + c.len.toNat) |>.map BitVec.toNat).sum % 128 = 0

/-- R105: the checksum is a 7-bit number, so it is neither START nor END, and it is 0 exactly when the
window's sum is divisible by 128. -/
def Obligations.ChecksumIsSevenBit : Prop :=
  ∀ window : List Byte,
    (checksumOf window).toNat ≤ 127 ∧ checksumOf window ≠ startByte ∧ checksumOf window ≠ endByte ∧
    (checksumOf window = 0 ↔ 128 ∣ (window.map BitVec.toNat).sum)

/-- R77, R80, R81, R100 (the model's reading of the frame rows: notes/assumptions/1.md): a frame
instruction leaves its frame in the outbound frame buffer and changes nothing else; a write frame or a
read frame with a length outside 1..MAX_PAYLOAD stops. -/
def Obligations.FrameInstructionsCompose : Prop :=
  ∀ (s : State) (addr : ParamAddr) (value : Byte) (len : BitVec 8),
    (LegalLen s.cfg len → exec (.writeFrame addr value len) s =
      .next { s with frameBuf := encodeCommand s.cfg ⟨addr, value, len, .write⟩ }) ∧
    (¬LegalLen s.cfg len → exec (.writeFrame addr value len) s = .fault .illegalLength) ∧
    (4 ≤ s.cfg.maxPayload → exec (.readFrame addr value) s =
      .next { s with frameBuf := encodeCommand s.cfg ⟨addr, value, 4, .read⟩ }) ∧
    (s.cfg.maxPayload < 4 → exec (.readFrame addr value) s = .fault .illegalLength) ∧
    exec .handshake s = .next { s with
      frameBuf := [0xF0, 0x7E, 0x00, 0x06, 0x02, 0x41, 0x3B, 0x03, 0x00, 0x00, 0x00, 0x00, 0x00, 0x00,
        0xF7] } ∧
    (1 ≤ s.cfg.maxPayload → exec .editFrame s = .next { s with
      frameBuf := [0xF0] ++ s.cfg.wireId.bytes ++ [0x12, 0x7F, 0x00, 0x00, 0x01, 0x01, 0x7F, 0xF7] }) ∧
    (s.cfg.maxPayload = 0 → exec .editFrame s = .fault .illegalLength)

/-- R83, R110, R112, R113 (the model's reading of the group rows: notes/assumptions/1.md): within
RX_MAX_BYTES, CIN 4, 5, 6 and 7 take 3, 1, 2 and 3 data bytes up to END, every other CIN ends reassembly,
the group is counted, and nothing else changes; past RX_MAX_BYTES the group is refused
(notes/assumptions/22.md, the refusal as a next state: 3.md). -/
def Obligations.GroupInstructionsStepReassembly : Prop :=
  ∀ (s : State) (cable : BitVec 4) (d1 d2 d3 : Byte),
    let terminators : List Instr :=
      [.cin0Terminate cable d1 d2 d3, .cin1Terminate cable d1 d2 d3, .cin2Terminate cable d1 d2 d3,
        .cin3Terminate cable d1 d2 d3, .cin8Terminate cable d1 d2 d3, .cin9Terminate cable d1 d2 d3,
        .cinATerminate cable d1 d2 d3, .cinBTerminate cable d1 d2 d3, .cinCTerminate cable d1 d2 d3,
        .cinDTerminate cable d1 d2 d3, .cinETerminate cable d1 d2 d3, .cinFTerminate cable d1 d2 d3]
    (4 * (s.rxGroups + 1) ≤ s.cfg.rxMaxBytes →
      exec (.cin4 cable d1 d2 d3) s = .next { s with
        reasm := afterGroup [d1, d2, d3] s.reasm, rxGroups := s.rxGroups + 1 } ∧
      exec (.cin5 cable d1 d2 d3) s = .next { s with
        reasm := afterGroup [d1] s.reasm, rxGroups := s.rxGroups + 1 } ∧
      exec (.cin6 cable d1 d2 d3) s = .next { s with
        reasm := afterGroup [d1, d2] s.reasm, rxGroups := s.rxGroups + 1 } ∧
      exec (.cin7 cable d1 d2 d3) s = .next { s with
        reasm := afterGroup [d1, d2, d3] s.reasm, rxGroups := s.rxGroups + 1 } ∧
      ∀ i ∈ terminators, exec i s = .next { s with
        reasm := afterTerminator s.reasm, rxGroups := s.rxGroups + 1 }) ∧
    (s.cfg.rxMaxBytes < 4 * (s.rxGroups + 1) →
      ∀ i ∈ [.cin4 cable d1 d2 d3, .cin5 cable d1 d2 d3, .cin6 cable d1 d2 d3, .cin7 cable d1 d2 d3] ++
        terminators,
        exec i s = .next { s with refused := markAfter .rxTooLong s, answer := .refused .rxTooLong })

/-- R110, R82 (notes/assumptions/1.md): the group instructions of a packet of at most RX_MAX_BYTES, run one
after the other from an empty buffer, leave there what Reassemble computes of the packet. -/
def Obligations.GroupInstructionsRefineReassemble : Prop :=
  ∀ (s : State) (gs : List EventGroup), s.reasm = ⟨[], none⟩ → s.rxGroups = 0 →
    4 * gs.length ≤ s.cfg.rxMaxBytes →
    ∃ r, execAll (gs.map (fun g => decodeGroup g.1 g.2.1 g.2.2.1 g.2.2.2)) s =
        .next { s with reasm := r, rxGroups := gs.length } ∧
      reassemble (gs.flatMap groupBytes) = endOfGroups r

/-- R32, R101, R110: Reassemble always says how it stopped, and its buffer holds at most three bytes a
group; and every instruction keeps both working buffers within R32's bounds, the groups past them being
refused (notes/assumptions/22.md). -/
def Obligations.ReassemblyIsBounded : Prop :=
  (∀ p : Packet, (reassemble p).bytes.length ≤ 3 * (p.length / 4) ∧ (reassemble p).term ≠ none) ∧
  ∀ (i : Instr) (s t : State), BuffersFit s → exec i s = .next t →
    BuffersFit t ∧ t.reasm.bytes.length ≤ 3 * (t.cfg.rxMaxBytes / 4)

/-- R32, R100, R110 (the answers: notes/assumptions/1.md, 11.md): after every step but an idle one the
working buffers hold nothing; a group operation answers what Reassemble gives of its four bytes as a
packet, and a frame operation answers the frame its instruction composes; the rest is as the outside world
left it. -/
def Obligations.CodecOperationsAnswerAndRelease : Prop :=
  ∀ s : State,
    (∀ t, s.stream ≠ [] → step s = .next t → BuffersEmpty t) ∧
    ∀ (inputs : Inputs) (arrivals : List Packet) (rest : List Stimulus),
      (∀ g : EventGroup, s.stream = .operation (.group g.1 g.2.1 g.2.2.1 g.2.2.2) inputs arrivals :: rest →
        4 ≤ s.cfg.rxMaxBytes → step s = .next { s with
          stream := rest, inputs := inputs, inbox := s.inbox ++ arrivals, frameBuf := [],
          reasm := ⟨[], none⟩, rxGroups := 0, answer := .reassembled (reassemble (groupBytes g)) }) ∧
      (∀ (f : Frame) (i : Instr), s.stream = .operation (.frame f) inputs arrivals :: rest →
        decode s.cfg (.frame f) = .ok i → 4 ≤ s.cfg.maxPayload → step s = .next { s with
          stream := rest, inputs := inputs, inbox := s.inbox ++ arrivals, frameBuf := [],
          reasm := ⟨[], none⟩, rxGroups := 0, answer := .composed f })

/-- R111: a trailing fragment of 1 to 3 bytes is ignored. -/
def Obligations.TrailingFragmentIgnored : Prop :=
  ∀ p fragment : Packet, 4 ∣ p.length → fragment.length < 4 → reassemble (p ++ fragment) = reassemble p

/-- R112: a group with a CIN outside 4..7 ends reassembly, adds no byte, and what follows is not read. -/
def Obligations.OtherCinEndsReassembly : Prop :=
  ∀ (p rest : Packet) (b0 b1 b2 b3 : Byte), 4 ∣ p.length → (reassemble p).term = some .exhausted →
    b0.toNat % 16 < 4 ∨ 7 < b0.toNat % 16 →
    reassemble (p ++ [b0, b1, b2, b3] ++ rest) = ⟨(reassemble p).bytes, some .stoppedByCin⟩

/-- R113: the first END among a group's data bytes is taken, and nothing after it is read, whatever the
group's CIN. -/
def Obligations.EndByteEndsReassembly : Prop :=
  ∀ (p rest : Packet) (b0 b1 b2 b3 : Byte) (n : Nat), 4 ∣ p.length →
    (reassemble p).term = some .exhausted →
    (b0.toNat % 16 = 4 ∧ n = 3) ∨ (b0.toNat % 16 = 5 ∧ n = 1) ∨ (b0.toNat % 16 = 6 ∧ n = 2) ∨
      (b0.toNat % 16 = 7 ∧ n = 3) →
    0xF7 ∈ [b1, b2, b3].take n →
    reassemble (p ++ [b0, b1, b2, b3] ++ rest) =
      ⟨(reassemble p).bytes ++ ([b1, b2, b3].take n).takeWhile (· ≠ 0xF7) ++ [0xF7], some .endSeen⟩

/-- R115 to R118, R120: exactly which packets decode, and what is read from them by position. -/
def Obligations.DecodeAcceptsExactly : Prop :=
  ∀ (cfg : Config) (p : Packet),
    let b := (reassemble p).bytes
    ((decodePacket cfg p).isSome = true ↔
      (reassemble p).term = some .endSeen ∧ 15 ≤ b.length ∧
        (cfg.validateRxChecksum = true →
          (((b.drop 8).take (b.length - 9)).map BitVec.toNat).sum % 128 = 0)) ∧
    ∀ addr value, decodePacket cfg p = some (addr, value) →
      (∃ b8 b9 b10 b11, b[8]? = some b8 ∧ b[9]? = some b9 ∧ b[10]? = some b10 ∧ b[11]? = some b11 ∧
        addr.toNat = b8.toNat * 2 ^ 24 + b9.toNat * 2 ^ 16 + b10.toNat * 2 ^ 8 + b11.toNat) ∧
      b[b.length - 3]? = some value

/-- R122: every packetisation of a command's frame decodes to its address and value, under both settings of
VALIDATE_RX_CHECKSUM, if no address byte and not the value is END. -/
def Obligations.FrameRoundTrip : Prop :=
  ∀ (cfg : Config) (c : Command) (gs : List EventGroup),
    cfg.wireId.Legal → 1 ≤ c.len.toNat → endByte ∉ addrBytes c.addr → c.value ≠ endByte →
    Packs gs (encodeCommand cfg c) →
    decodePacket cfg (gs.flatMap groupBytes) = some (c.addr, c.value)

/-- R122: where a byte of the address or the value is END the frame does not come back: none for an
address byte or a length up to 2, and a zero byte instead of the value beyond, the checksum being
unchecked. -/
def Obligations.EndByteBreaksRoundTrip : Prop :=
  ∀ (cfg : Config) (c : Command) (gs : List EventGroup),
    cfg.wireId.Legal → 1 ≤ c.len.toNat → Packs gs (encodeCommand cfg c) →
    (endByte ∈ addrBytes c.addr → decodePacket cfg (gs.flatMap groupBytes) = none) ∧
    (endByte ∉ addrBytes c.addr → c.value = endByte → c.len.toNat ≤ 2 →
      decodePacket cfg (gs.flatMap groupBytes) = none) ∧
    (endByte ∉ addrBytes c.addr → c.value = endByte → 3 ≤ c.len.toNat →
      cfg.validateRxChecksum = false →
      decodePacket cfg (gs.flatMap groupBytes) = some (c.addr, 0x00))
end

