-- ==== Sys2Proof/Laws/Codec.lean ====
section
/-! SUPPORT. Lemmas of the Frame Codec's functions. -/

namespace Sys2Proof.Machine

/-! ### Groups of a packet -/

@[simp] theorem groupsOf_nil : groupsOf [] = [] := rfl

@[simp] theorem groupsOf_cons (b0 b1 b2 b3 : Byte) (rest : Packet) :
    groupsOf (b0 :: b1 :: b2 :: b3 :: rest) = (b0, b1, b2, b3) :: groupsOf rest := rfl

/-- Fewer than four bytes hold no group (R111). -/
theorem groupsOf_of_short {p : Packet} (h : p.length < 4) : groupsOf p = [] := by
  unfold groupsOf
  split
  · simp at h; omega
  · rfl

/-- The groups of a packet cut at a group boundary are those of its two parts. -/
theorem groupsOf_append : ∀ {p : Packet} (q : Packet), 4 ∣ p.length →
    groupsOf (p ++ q) = groupsOf p ++ groupsOf q
  | [], q, _ => rfl
  | [_], _, h => by simp at h
  | [_, _], _, h => by simp at h
  | [_, _, _], _, h => by simp at h
  | b0 :: b1 :: b2 :: b3 :: rest, q, h => by
    have h' : 4 ∣ rest.length := by simp only [List.length_cons] at h; omega
    simp [groupsOf_append q h']

theorem length_groupsOf : ∀ p : Packet, (groupsOf p).length = p.length / 4
  | [] => rfl
  | [_] => by simp [groupsOf]
  | [_, _] => by simp [groupsOf]
  | [_, _, _] => by simp [groupsOf]
  | _ :: _ :: _ :: _ :: rest => by simp [length_groupsOf rest]; omega

/-! ### One group -/

/-- The data bytes of a group up to the first END (R110, R113). -/
theorem takeBytes_eq (ds : List Byte) (r : Reassembly) :
    takeBytes ds r =
      if endByte ∈ ds then ⟨r.bytes ++ (ds.takeWhile (· ≠ endByte) ++ [endByte]), some .endSeen⟩
      else ⟨r.bytes ++ ds, r.term⟩ := by
  induction ds generalizing r with
  | nil => simp [takeBytes]
  | cons d ds ih =>
    by_cases hd : d = endByte
    · subst hd; simp [takeBytes]
    · have hd' : endByte ≠ d := fun h => hd h.symm
      simp [takeBytes, hd, hd', ih]

/-- Groups after the stop are not read (R112, R113). -/
theorem takeGroup_of_stopped {r : Reassembly} {t : Term} (h : r.term = some t) (cin : BitVec 4)
    (d1 d2 d3 : Byte) : takeGroup cin d1 d2 d3 r = r := by
  simp [takeGroup, h]

theorem foldl_readGroup_of_stopped {r : Reassembly} {t : Term} (h : r.term = some t) (gs : List EventGroup) :
    gs.foldl readGroup r = r := by
  induction gs with
  | nil => rfl
  | cons g gs ih => simpa [readGroup, takeGroup_of_stopped h] using ih

/-- While reassembly runs, a group adds its bytes or stops it (R110). -/
theorem takeGroup_of_running {r : Reassembly} (h : r.term = none) (cin : BitVec 4) (d1 d2 d3 : Byte) :
    takeGroup cin d1 d2 d3 r =
      if cinCount cin = 0 then ⟨r.bytes, some .stoppedByCin⟩
      else if endByte ∈ [d1, d2, d3].take (cinCount cin) then
        ⟨r.bytes ++ (([d1, d2, d3].take (cinCount cin)).takeWhile (· ≠ endByte) ++ [endByte]),
          some .endSeen⟩
      else ⟨r.bytes ++ [d1, d2, d3].take (cinCount cin), none⟩ := by
  unfold takeGroup
  rw [h]
  simp only [takeBytes_eq, h]

/-- A group adds at most three bytes (R110). -/
theorem length_takeGroup_le (cin : BitVec 4) (d1 d2 d3 : Byte) (r : Reassembly) :
    (takeGroup cin d1 d2 d3 r).bytes.length ≤ r.bytes.length + 3 := by
  cases h : r.term with
  | some t => rw [takeGroup_of_stopped h]; omega
  | none =>
    rw [takeGroup_of_running h]
    have h3 : ([d1, d2, d3].take (cinCount cin)).length ≤ 3 := by simp
    split
    · simp
    · split
      · next hm =>
        have : (([d1, d2, d3].take (cinCount cin)).takeWhile (· ≠ endByte)).length <
            ([d1, d2, d3].take (cinCount cin)).length := by
          by_contra hlt
          have heq := (List.takeWhile_prefix (p := (· ≠ endByte))
            (l := [d1, d2, d3].take (cinCount cin))).eq_of_length_le (by omega)
          have := List.takeWhile_eq_self_iff.mp heq endByte hm
          simp at this
        simp only [List.length_append, List.length_singleton]; omega
      · simp only [List.length_append]; omega

/-- The stop reason once the groups have run out (R114). -/
theorem endOfGroups_of_stopped {r : Reassembly} {t : Term} (h : r.term = some t) : endOfGroups r = r := by
  simp [endOfGroups, h]

theorem endOfGroups_of_running {r : Reassembly} (h : r.term = none) :
    endOfGroups r = ⟨r.bytes, some .exhausted⟩ := by
  simp [endOfGroups, h]

end Sys2Proof.Machine
end

