-- ==== Sys2Proof/Laws/State.lean ====
section
/-! SUPPORT. What each named update of the state does to each field. -/

namespace Sys2Proof.Machine

variable (s : State)

@[simp] theorem emit_cfg (e : Event) : (emit e s).cfg = s.cfg := rfl
@[simp] theorem emit_ctrlState (e : Event) : (emit e s).ctrlState = s.ctrlState := rfl
@[simp] theorem emit_hsStep (e : Event) : (emit e s).hsStep = s.hsStep := rfl
@[simp] theorem emit_nextTime (e : Event) : (emit e s).nextTime = s.nextTime := rfl
@[simp] theorem emit_queue (e : Event) : (emit e s).queue = s.queue := rfl
@[simp] theorem emit_lastNow (e : Event) : (emit e s).lastNow = s.lastNow := rfl
@[simp] theorem emit_refused (e : Event) : (emit e s).refused = s.refused := rfl
@[simp] theorem emit_trace (e : Event) : (emit e s).trace = s.trace ++ [e] := rfl
@[simp] theorem emit_frameBuf (e : Event) : (emit e s).frameBuf = s.frameBuf := rfl
@[simp] theorem emit_reasm (e : Event) : (emit e s).reasm = s.reasm := rfl
@[simp] theorem emit_rxGroups (e : Event) : (emit e s).rxGroups = s.rxGroups := rfl
@[simp] theorem emit_inbox (e : Event) : (emit e s).inbox = s.inbox := rfl
@[simp] theorem emit_inputs (e : Event) : (emit e s).inputs = s.inputs := rfl
@[simp] theorem emit_stream (e : Event) : (emit e s).stream = s.stream := rfl
@[simp] theorem emit_answer (e : Event) : (emit e s).answer = s.answer := rfl

@[simp] theorem respond_cfg (r : Response) : (respond r s).cfg = s.cfg := rfl
@[simp] theorem respond_ctrlState (r : Response) : (respond r s).ctrlState = s.ctrlState := rfl
@[simp] theorem respond_hsStep (r : Response) : (respond r s).hsStep = s.hsStep := rfl
@[simp] theorem respond_nextTime (r : Response) : (respond r s).nextTime = s.nextTime := rfl
@[simp] theorem respond_queue (r : Response) : (respond r s).queue = s.queue := rfl
@[simp] theorem respond_lastNow (r : Response) : (respond r s).lastNow = s.lastNow := rfl
@[simp] theorem respond_refused (r : Response) : (respond r s).refused = s.refused := rfl
@[simp] theorem respond_trace (r : Response) : (respond r s).trace = s.trace := rfl
@[simp] theorem respond_frameBuf (r : Response) : (respond r s).frameBuf = s.frameBuf := rfl
@[simp] theorem respond_reasm (r : Response) : (respond r s).reasm = s.reasm := rfl
@[simp] theorem respond_rxGroups (r : Response) : (respond r s).rxGroups = s.rxGroups := rfl
@[simp] theorem respond_inbox (r : Response) : (respond r s).inbox = s.inbox := rfl
@[simp] theorem respond_inputs (r : Response) : (respond r s).inputs = s.inputs := rfl
@[simp] theorem respond_stream (r : Response) : (respond r s).stream = s.stream := rfl
@[simp] theorem respond_answer (r : Response) : (respond r s).answer = .response (responseWord r) := rfl

@[simp] theorem refuse_cfg (r : Reason) : (refuse r s).cfg = s.cfg := rfl
@[simp] theorem refuse_ctrlState (r : Reason) : (refuse r s).ctrlState = s.ctrlState := rfl
@[simp] theorem refuse_hsStep (r : Reason) : (refuse r s).hsStep = s.hsStep := rfl
@[simp] theorem refuse_nextTime (r : Reason) : (refuse r s).nextTime = s.nextTime := rfl
@[simp] theorem refuse_queue (r : Reason) : (refuse r s).queue = s.queue := rfl
@[simp] theorem refuse_lastNow (r : Reason) : (refuse r s).lastNow = s.lastNow := rfl
@[simp] theorem refuse_refused (r : Reason) : (refuse r s).refused = firstReason s.refused r := rfl
@[simp] theorem refuse_trace (r : Reason) : (refuse r s).trace = s.trace := rfl
@[simp] theorem refuse_frameBuf (r : Reason) : (refuse r s).frameBuf = s.frameBuf := rfl
@[simp] theorem refuse_reasm (r : Reason) : (refuse r s).reasm = s.reasm := rfl
@[simp] theorem refuse_rxGroups (r : Reason) : (refuse r s).rxGroups = s.rxGroups := rfl
@[simp] theorem refuse_inbox (r : Reason) : (refuse r s).inbox = s.inbox := rfl
@[simp] theorem refuse_inputs (r : Reason) : (refuse r s).inputs = s.inputs := rfl
@[simp] theorem refuse_stream (r : Reason) : (refuse r s).stream = s.stream := rfl
@[simp] theorem refuse_answer (r : Reason) : (refuse r s).answer = .refused r := rfl

@[simp] theorem setQueue_cfg (q : List Command) : (setQueue q s).cfg = s.cfg := rfl
@[simp] theorem setQueue_ctrlState (q : List Command) : (setQueue q s).ctrlState = s.ctrlState := rfl
@[simp] theorem setQueue_hsStep (q : List Command) : (setQueue q s).hsStep = s.hsStep := rfl
@[simp] theorem setQueue_nextTime (q : List Command) : (setQueue q s).nextTime = s.nextTime := rfl
@[simp] theorem setQueue_queue (q : List Command) : (setQueue q s).queue = q := rfl
@[simp] theorem setQueue_lastNow (q : List Command) : (setQueue q s).lastNow = s.lastNow := rfl
@[simp] theorem setQueue_refused (q : List Command) : (setQueue q s).refused = s.refused := rfl
@[simp] theorem setQueue_trace (q : List Command) : (setQueue q s).trace = s.trace := rfl
@[simp] theorem setQueue_frameBuf (q : List Command) : (setQueue q s).frameBuf = s.frameBuf := rfl
@[simp] theorem setQueue_reasm (q : List Command) : (setQueue q s).reasm = s.reasm := rfl
@[simp] theorem setQueue_rxGroups (q : List Command) : (setQueue q s).rxGroups = s.rxGroups := rfl
@[simp] theorem setQueue_inbox (q : List Command) : (setQueue q s).inbox = s.inbox := rfl
@[simp] theorem setQueue_inputs (q : List Command) : (setQueue q s).inputs = s.inputs := rfl
@[simp] theorem setQueue_stream (q : List Command) : (setQueue q s).stream = s.stream := rfl
@[simp] theorem setQueue_answer (q : List Command) : (setQueue q s).answer = s.answer := rfl

@[simp] theorem append_cfg (c : Command) : (append c s).cfg = s.cfg := rfl
@[simp] theorem append_ctrlState (c : Command) : (append c s).ctrlState = s.ctrlState := rfl
@[simp] theorem append_hsStep (c : Command) : (append c s).hsStep = s.hsStep := rfl
@[simp] theorem append_nextTime (c : Command) : (append c s).nextTime = s.nextTime := rfl
@[simp] theorem append_queue (c : Command) : (append c s).queue = s.queue ++ [c] := rfl
@[simp] theorem append_lastNow (c : Command) : (append c s).lastNow = s.lastNow := rfl
@[simp] theorem append_refused (c : Command) : (append c s).refused = s.refused := rfl
@[simp] theorem append_trace (c : Command) : (append c s).trace = s.trace := rfl
@[simp] theorem append_frameBuf (c : Command) : (append c s).frameBuf = s.frameBuf := rfl
@[simp] theorem append_reasm (c : Command) : (append c s).reasm = s.reasm := rfl
@[simp] theorem append_rxGroups (c : Command) : (append c s).rxGroups = s.rxGroups := rfl
@[simp] theorem append_inbox (c : Command) : (append c s).inbox = s.inbox := rfl
@[simp] theorem append_inputs (c : Command) : (append c s).inputs = s.inputs := rfl
@[simp] theorem append_stream (c : Command) : (append c s).stream = s.stream := rfl
@[simp] theorem append_answer (c : Command) : (append c s).answer = s.answer := rfl

@[simp] theorem enterState_cfg (c : BitVec 2) : (enterState c s).cfg = s.cfg := rfl
@[simp] theorem enterState_ctrlState (c : BitVec 2) : (enterState c s).ctrlState = c := rfl
@[simp] theorem enterState_hsStep (c : BitVec 2) : (enterState c s).hsStep = s.hsStep := rfl
@[simp] theorem enterState_nextTime (c : BitVec 2) : (enterState c s).nextTime = s.nextTime := rfl
@[simp] theorem enterState_queue (c : BitVec 2) : (enterState c s).queue = s.queue := rfl
@[simp] theorem enterState_lastNow (c : BitVec 2) : (enterState c s).lastNow = s.lastNow := rfl
@[simp] theorem enterState_refused (c : BitVec 2) : (enterState c s).refused = s.refused := rfl
@[simp] theorem enterState_trace (c : BitVec 2) : (enterState c s).trace = s.trace ++ [.state c] := rfl
@[simp] theorem enterState_frameBuf (c : BitVec 2) : (enterState c s).frameBuf = s.frameBuf := rfl
@[simp] theorem enterState_reasm (c : BitVec 2) : (enterState c s).reasm = s.reasm := rfl
@[simp] theorem enterState_rxGroups (c : BitVec 2) : (enterState c s).rxGroups = s.rxGroups := rfl
@[simp] theorem enterState_inbox (c : BitVec 2) : (enterState c s).inbox = s.inbox := rfl
@[simp] theorem enterState_inputs (c : BitVec 2) : (enterState c s).inputs = s.inputs := rfl
@[simp] theorem enterState_stream (c : BitVec 2) : (enterState c s).stream = s.stream := rfl
@[simp] theorem enterState_answer (c : BitVec 2) : (enterState c s).answer = s.answer := rfl

@[simp] theorem setHsStep_cfg (k : BitVec 2) : (setHsStep k s).cfg = s.cfg := rfl
@[simp] theorem setHsStep_ctrlState (k : BitVec 2) : (setHsStep k s).ctrlState = s.ctrlState := rfl
@[simp] theorem setHsStep_hsStep (k : BitVec 2) : (setHsStep k s).hsStep = k := rfl
@[simp] theorem setHsStep_nextTime (k : BitVec 2) : (setHsStep k s).nextTime = s.nextTime := rfl
@[simp] theorem setHsStep_queue (k : BitVec 2) : (setHsStep k s).queue = s.queue := rfl
@[simp] theorem setHsStep_lastNow (k : BitVec 2) : (setHsStep k s).lastNow = s.lastNow := rfl
@[simp] theorem setHsStep_refused (k : BitVec 2) : (setHsStep k s).refused = s.refused := rfl
@[simp] theorem setHsStep_trace (k : BitVec 2) : (setHsStep k s).trace = s.trace := rfl
@[simp] theorem setHsStep_frameBuf (k : BitVec 2) : (setHsStep k s).frameBuf = s.frameBuf := rfl
@[simp] theorem setHsStep_reasm (k : BitVec 2) : (setHsStep k s).reasm = s.reasm := rfl
@[simp] theorem setHsStep_rxGroups (k : BitVec 2) : (setHsStep k s).rxGroups = s.rxGroups := rfl
@[simp] theorem setHsStep_inbox (k : BitVec 2) : (setHsStep k s).inbox = s.inbox := rfl
@[simp] theorem setHsStep_inputs (k : BitVec 2) : (setHsStep k s).inputs = s.inputs := rfl
@[simp] theorem setHsStep_stream (k : BitVec 2) : (setHsStep k s).stream = s.stream := rfl
@[simp] theorem setHsStep_answer (k : BitVec 2) : (setHsStep k s).answer = s.answer := rfl

@[simp] theorem loadTimer_cfg (d : Nat) : (loadTimer d s).cfg = s.cfg := rfl
@[simp] theorem loadTimer_ctrlState (d : Nat) : (loadTimer d s).ctrlState = s.ctrlState := rfl
@[simp] theorem loadTimer_hsStep (d : Nat) : (loadTimer d s).hsStep = s.hsStep := rfl
@[simp] theorem loadTimer_nextTime (d : Nat) : (loadTimer d s).nextTime = s.inputs.now + d := rfl
@[simp] theorem loadTimer_queue (d : Nat) : (loadTimer d s).queue = s.queue := rfl
@[simp] theorem loadTimer_lastNow (d : Nat) : (loadTimer d s).lastNow = s.lastNow := rfl
@[simp] theorem loadTimer_refused (d : Nat) : (loadTimer d s).refused = s.refused := rfl
@[simp] theorem loadTimer_trace (d : Nat) : (loadTimer d s).trace = s.trace := rfl
@[simp] theorem loadTimer_frameBuf (d : Nat) : (loadTimer d s).frameBuf = s.frameBuf := rfl
@[simp] theorem loadTimer_reasm (d : Nat) : (loadTimer d s).reasm = s.reasm := rfl
@[simp] theorem loadTimer_rxGroups (d : Nat) : (loadTimer d s).rxGroups = s.rxGroups := rfl
@[simp] theorem loadTimer_inbox (d : Nat) : (loadTimer d s).inbox = s.inbox := rfl
@[simp] theorem loadTimer_inputs (d : Nat) : (loadTimer d s).inputs = s.inputs := rfl
@[simp] theorem loadTimer_stream (d : Nat) : (loadTimer d s).stream = s.stream := rfl
@[simp] theorem loadTimer_answer (d : Nat) : (loadTimer d s).answer = s.answer := rfl

@[simp] theorem complete_cfg (r : Response) : (complete r s).cfg = s.cfg := rfl
@[simp] theorem complete_ctrlState (r : Response) : (complete r s).ctrlState = s.ctrlState := rfl
@[simp] theorem complete_hsStep (r : Response) : (complete r s).hsStep = s.hsStep := rfl
@[simp] theorem complete_nextTime (r : Response) : (complete r s).nextTime = s.nextTime := rfl
@[simp] theorem complete_queue (r : Response) : (complete r s).queue = s.queue := rfl
@[simp] theorem complete_lastNow (r : Response) : (complete r s).lastNow = some s.inputs.now := rfl
@[simp] theorem complete_refused (r : Response) : (complete r s).refused = s.refused := rfl
@[simp] theorem complete_trace (r : Response) : (complete r s).trace = s.trace := rfl
@[simp] theorem complete_frameBuf (r : Response) : (complete r s).frameBuf = s.frameBuf := rfl
@[simp] theorem complete_reasm (r : Response) : (complete r s).reasm = s.reasm := rfl
@[simp] theorem complete_rxGroups (r : Response) : (complete r s).rxGroups = s.rxGroups := rfl
@[simp] theorem complete_inbox (r : Response) : (complete r s).inbox = s.inbox := rfl
@[simp] theorem complete_inputs (r : Response) : (complete r s).inputs = s.inputs := rfl
@[simp] theorem complete_stream (r : Response) : (complete r s).stream = s.stream := rfl
@[simp] theorem complete_answer (r : Response) : (complete r s).answer = .response (responseWord r) := rfl

@[simp] theorem sendFrame_cfg (f : Frame) : (sendFrame f s).cfg = s.cfg := rfl
@[simp] theorem sendFrame_ctrlState (f : Frame) : (sendFrame f s).ctrlState = s.ctrlState := rfl
@[simp] theorem sendFrame_hsStep (f : Frame) : (sendFrame f s).hsStep = s.hsStep := rfl
@[simp] theorem sendFrame_nextTime (f : Frame) : (sendFrame f s).nextTime = s.nextTime := rfl
@[simp] theorem sendFrame_queue (f : Frame) : (sendFrame f s).queue = s.queue := rfl
@[simp] theorem sendFrame_lastNow (f : Frame) : (sendFrame f s).lastNow = s.lastNow := rfl
@[simp] theorem sendFrame_refused (f : Frame) : (sendFrame f s).refused = s.refused := rfl
@[simp] theorem sendFrame_trace (f : Frame) : (sendFrame f s).trace = s.trace ++ [.tx f] := rfl
@[simp] theorem sendFrame_frameBuf (f : Frame) : (sendFrame f s).frameBuf = s.frameBuf := rfl
@[simp] theorem sendFrame_reasm (f : Frame) : (sendFrame f s).reasm = s.reasm := rfl
@[simp] theorem sendFrame_rxGroups (f : Frame) : (sendFrame f s).rxGroups = s.rxGroups := rfl
@[simp] theorem sendFrame_inbox (f : Frame) : (sendFrame f s).inbox = s.inbox := rfl
@[simp] theorem sendFrame_inputs (f : Frame) : (sendFrame f s).inputs = s.inputs := rfl
@[simp] theorem sendFrame_stream (f : Frame) : (sendFrame f s).stream = s.stream := rfl
@[simp] theorem sendFrame_answer (f : Frame) : (sendFrame f s).answer = s.answer := rfl

@[simp] theorem loadFrame_cfg (f : Frame) : (loadFrame f s).cfg = s.cfg := rfl
@[simp] theorem loadFrame_ctrlState (f : Frame) : (loadFrame f s).ctrlState = s.ctrlState := rfl
@[simp] theorem loadFrame_hsStep (f : Frame) : (loadFrame f s).hsStep = s.hsStep := rfl
@[simp] theorem loadFrame_nextTime (f : Frame) : (loadFrame f s).nextTime = s.nextTime := rfl
@[simp] theorem loadFrame_queue (f : Frame) : (loadFrame f s).queue = s.queue := rfl
@[simp] theorem loadFrame_lastNow (f : Frame) : (loadFrame f s).lastNow = s.lastNow := rfl
@[simp] theorem loadFrame_refused (f : Frame) : (loadFrame f s).refused = s.refused := rfl
@[simp] theorem loadFrame_trace (f : Frame) : (loadFrame f s).trace = s.trace := rfl
@[simp] theorem loadFrame_frameBuf (f : Frame) : (loadFrame f s).frameBuf = f := rfl
@[simp] theorem loadFrame_reasm (f : Frame) : (loadFrame f s).reasm = s.reasm := rfl
@[simp] theorem loadFrame_rxGroups (f : Frame) : (loadFrame f s).rxGroups = s.rxGroups := rfl
@[simp] theorem loadFrame_inbox (f : Frame) : (loadFrame f s).inbox = s.inbox := rfl
@[simp] theorem loadFrame_inputs (f : Frame) : (loadFrame f s).inputs = s.inputs := rfl
@[simp] theorem loadFrame_stream (f : Frame) : (loadFrame f s).stream = s.stream := rfl
@[simp] theorem loadFrame_answer (f : Frame) : (loadFrame f s).answer = s.answer := rfl

@[simp] theorem loadGroup_cfg (cin : BitVec 4) (d1 d2 d3 : Byte) : (loadGroup cin d1 d2 d3 s).cfg = s.cfg := rfl
@[simp] theorem loadGroup_ctrlState (cin : BitVec 4) (d1 d2 d3 : Byte) : (loadGroup cin d1 d2 d3 s).ctrlState = s.ctrlState := rfl
@[simp] theorem loadGroup_hsStep (cin : BitVec 4) (d1 d2 d3 : Byte) : (loadGroup cin d1 d2 d3 s).hsStep = s.hsStep := rfl
@[simp] theorem loadGroup_nextTime (cin : BitVec 4) (d1 d2 d3 : Byte) : (loadGroup cin d1 d2 d3 s).nextTime = s.nextTime := rfl
@[simp] theorem loadGroup_queue (cin : BitVec 4) (d1 d2 d3 : Byte) : (loadGroup cin d1 d2 d3 s).queue = s.queue := rfl
@[simp] theorem loadGroup_lastNow (cin : BitVec 4) (d1 d2 d3 : Byte) : (loadGroup cin d1 d2 d3 s).lastNow = s.lastNow := rfl
@[simp] theorem loadGroup_refused (cin : BitVec 4) (d1 d2 d3 : Byte) : (loadGroup cin d1 d2 d3 s).refused = s.refused := rfl
@[simp] theorem loadGroup_trace (cin : BitVec 4) (d1 d2 d3 : Byte) : (loadGroup cin d1 d2 d3 s).trace = s.trace := rfl
@[simp] theorem loadGroup_frameBuf (cin : BitVec 4) (d1 d2 d3 : Byte) : (loadGroup cin d1 d2 d3 s).frameBuf = s.frameBuf := rfl
@[simp] theorem loadGroup_reasm (cin : BitVec 4) (d1 d2 d3 : Byte) : (loadGroup cin d1 d2 d3 s).reasm = takeGroup cin d1 d2 d3 s.reasm := rfl
@[simp] theorem loadGroup_rxGroups (cin : BitVec 4) (d1 d2 d3 : Byte) : (loadGroup cin d1 d2 d3 s).rxGroups = s.rxGroups + 1 := rfl
@[simp] theorem loadGroup_inbox (cin : BitVec 4) (d1 d2 d3 : Byte) : (loadGroup cin d1 d2 d3 s).inbox = s.inbox := rfl
@[simp] theorem loadGroup_inputs (cin : BitVec 4) (d1 d2 d3 : Byte) : (loadGroup cin d1 d2 d3 s).inputs = s.inputs := rfl
@[simp] theorem loadGroup_stream (cin : BitVec 4) (d1 d2 d3 : Byte) : (loadGroup cin d1 d2 d3 s).stream = s.stream := rfl
@[simp] theorem loadGroup_answer (cin : BitVec 4) (d1 d2 d3 : Byte) : (loadGroup cin d1 d2 d3 s).answer = s.answer := rfl

@[simp] theorem clearBuffers_cfg : (clearBuffers s).cfg = s.cfg := rfl
@[simp] theorem clearBuffers_ctrlState : (clearBuffers s).ctrlState = s.ctrlState := rfl
@[simp] theorem clearBuffers_hsStep : (clearBuffers s).hsStep = s.hsStep := rfl
@[simp] theorem clearBuffers_nextTime : (clearBuffers s).nextTime = s.nextTime := rfl
@[simp] theorem clearBuffers_queue : (clearBuffers s).queue = s.queue := rfl
@[simp] theorem clearBuffers_lastNow : (clearBuffers s).lastNow = s.lastNow := rfl
@[simp] theorem clearBuffers_refused : (clearBuffers s).refused = s.refused := rfl
@[simp] theorem clearBuffers_trace : (clearBuffers s).trace = s.trace := rfl
@[simp] theorem clearBuffers_frameBuf : (clearBuffers s).frameBuf = [] := rfl
@[simp] theorem clearBuffers_reasm : (clearBuffers s).reasm = Reassembly.start := rfl
@[simp] theorem clearBuffers_rxGroups : (clearBuffers s).rxGroups = 0 := rfl
@[simp] theorem clearBuffers_inbox : (clearBuffers s).inbox = s.inbox := rfl
@[simp] theorem clearBuffers_inputs : (clearBuffers s).inputs = s.inputs := rfl
@[simp] theorem clearBuffers_stream : (clearBuffers s).stream = s.stream := rfl
@[simp] theorem clearBuffers_answer : (clearBuffers s).answer = s.answer := rfl

@[simp] theorem hardReset_cfg : (hardReset s).cfg = s.cfg := rfl
@[simp] theorem hardReset_ctrlState : (hardReset s).ctrlState = ctrlDisconnected := rfl
@[simp] theorem hardReset_hsStep : (hardReset s).hsStep = 1 := rfl
@[simp] theorem hardReset_nextTime : (hardReset s).nextTime = 0 := rfl
@[simp] theorem hardReset_queue : (hardReset s).queue = [] := rfl
@[simp] theorem hardReset_lastNow : (hardReset s).lastNow = none := rfl
@[simp] theorem hardReset_refused : (hardReset s).refused = s.refused := rfl
@[simp] theorem hardReset_trace : (hardReset s).trace = s.trace := rfl
@[simp] theorem hardReset_frameBuf : (hardReset s).frameBuf = [] := rfl
@[simp] theorem hardReset_reasm : (hardReset s).reasm = Reassembly.start := rfl
@[simp] theorem hardReset_rxGroups : (hardReset s).rxGroups = 0 := rfl
@[simp] theorem hardReset_inbox : (hardReset s).inbox = s.inbox := rfl
@[simp] theorem hardReset_inputs : (hardReset s).inputs = s.inputs := rfl
@[simp] theorem hardReset_stream : (hardReset s).stream = s.stream := rfl
@[simp] theorem hardReset_answer : (hardReset s).answer = .none := rfl

/-! `takePacket` and `evictOldest` are a case split over one update each. -/

@[simp] theorem takePacket_cfg : (takePacket s).cfg = s.cfg := by unfold takePacket; split <;> rfl
@[simp] theorem takePacket_ctrlState : (takePacket s).ctrlState = s.ctrlState := by unfold takePacket; split <;> rfl
@[simp] theorem takePacket_hsStep : (takePacket s).hsStep = s.hsStep := by unfold takePacket; split <;> rfl
@[simp] theorem takePacket_nextTime : (takePacket s).nextTime = s.nextTime := by unfold takePacket; split <;> rfl
@[simp] theorem takePacket_queue : (takePacket s).queue = s.queue := by unfold takePacket; split <;> rfl
@[simp] theorem takePacket_lastNow : (takePacket s).lastNow = s.lastNow := by unfold takePacket; split <;> rfl
@[simp] theorem takePacket_refused : (takePacket s).refused = s.refused := by unfold takePacket; split <;> rfl
@[simp] theorem takePacket_trace : (takePacket s).trace = s.trace := by unfold takePacket; split <;> rfl
@[simp] theorem takePacket_frameBuf : (takePacket s).frameBuf = s.frameBuf := by unfold takePacket; split <;> rfl
@[simp] theorem takePacket_reasm : (takePacket s).reasm = s.reasm := by unfold takePacket; split <;> rfl
@[simp] theorem takePacket_rxGroups : (takePacket s).rxGroups = s.rxGroups := by unfold takePacket; split <;> rfl
@[simp] theorem takePacket_inbox : (takePacket s).inbox = if s.inputs.offers then s.inbox.tail else s.inbox := by
  unfold takePacket; split <;> rfl
@[simp] theorem takePacket_inputs : (takePacket s).inputs = s.inputs := by unfold takePacket; split <;> rfl
@[simp] theorem takePacket_stream : (takePacket s).stream = s.stream := by unfold takePacket; split <;> rfl
@[simp] theorem takePacket_answer : (takePacket s).answer = s.answer := by unfold takePacket; split <;> rfl
@[simp] theorem evictOldest_cfg : (evictOldest s).cfg = s.cfg := by unfold evictOldest; split <;> rfl
@[simp] theorem evictOldest_ctrlState : (evictOldest s).ctrlState = s.ctrlState := by unfold evictOldest; split <;> rfl
@[simp] theorem evictOldest_hsStep : (evictOldest s).hsStep = s.hsStep := by unfold evictOldest; split <;> rfl
@[simp] theorem evictOldest_nextTime : (evictOldest s).nextTime = s.nextTime := by unfold evictOldest; split <;> rfl
@[simp] theorem evictOldest_queue : (evictOldest s).queue = s.queue.tail := by
  unfold evictOldest; split <;> simp_all
@[simp] theorem evictOldest_lastNow : (evictOldest s).lastNow = s.lastNow := by unfold evictOldest; split <;> rfl
@[simp] theorem evictOldest_refused : (evictOldest s).refused = s.refused := by unfold evictOldest; split <;> rfl
@[simp] theorem evictOldest_trace :
    (evictOldest s).trace = s.trace ++ (s.queue.take 1).map .evict := by
  unfold evictOldest; split <;> simp_all
@[simp] theorem evictOldest_frameBuf : (evictOldest s).frameBuf = s.frameBuf := by unfold evictOldest; split <;> rfl
@[simp] theorem evictOldest_reasm : (evictOldest s).reasm = s.reasm := by unfold evictOldest; split <;> rfl
@[simp] theorem evictOldest_rxGroups : (evictOldest s).rxGroups = s.rxGroups := by unfold evictOldest; split <;> rfl
@[simp] theorem evictOldest_inbox : (evictOldest s).inbox = s.inbox := by unfold evictOldest; split <;> rfl
@[simp] theorem evictOldest_inputs : (evictOldest s).inputs = s.inputs := by unfold evictOldest; split <;> rfl
@[simp] theorem evictOldest_stream : (evictOldest s).stream = s.stream := by unfold evictOldest; split <;> rfl
@[simp] theorem evictOldest_answer : (evictOldest s).answer = s.answer := by unfold evictOldest; split <;> rfl

/-! ### Reset -/

@[simp] theorem resetWith_cfg (c : Config) : (State.resetWith c).cfg = c := rfl
@[simp] theorem resetWith_ctrlState (c : Config) : (State.resetWith c).ctrlState = ctrlDisconnected := rfl
@[simp] theorem resetWith_hsStep (c : Config) : (State.resetWith c).hsStep = 1 := rfl
@[simp] theorem resetWith_nextTime (c : Config) : (State.resetWith c).nextTime = 0 := rfl
@[simp] theorem resetWith_queue (c : Config) : (State.resetWith c).queue = [] := rfl
@[simp] theorem resetWith_lastNow (c : Config) : (State.resetWith c).lastNow = none := rfl
@[simp] theorem resetWith_refused (c : Config) : (State.resetWith c).refused = none := rfl
@[simp] theorem resetWith_trace (c : Config) : (State.resetWith c).trace = [] := rfl
@[simp] theorem resetWith_frameBuf (c : Config) : (State.resetWith c).frameBuf = [] := rfl
@[simp] theorem resetWith_reasm (c : Config) : (State.resetWith c).reasm = Reassembly.start := rfl
@[simp] theorem resetWith_rxGroups (c : Config) : (State.resetWith c).rxGroups = 0 := rfl
@[simp] theorem resetWith_inbox (c : Config) : (State.resetWith c).inbox = [] := rfl
@[simp] theorem resetWith_inputs (c : Config) : (State.resetWith c).inputs = Inputs.idle := rfl
@[simp] theorem resetWith_stream (c : Config) : (State.resetWith c).stream = [] := rfl
@[simp] theorem resetWith_answer (c : Config) : (State.resetWith c).answer = .none := rfl

/-! ### The state an operation starts in, and the state it leaves -/

section
variable (inputs : Inputs) (arrivals : List Packet) (rest : List Stimulus)

@[simp] theorem present_cfg : (present inputs arrivals rest s).cfg = s.cfg := rfl
@[simp] theorem present_ctrlState : (present inputs arrivals rest s).ctrlState = s.ctrlState := rfl
@[simp] theorem present_hsStep : (present inputs arrivals rest s).hsStep = s.hsStep := rfl
@[simp] theorem present_nextTime : (present inputs arrivals rest s).nextTime = s.nextTime := rfl
@[simp] theorem present_queue : (present inputs arrivals rest s).queue = s.queue := rfl
@[simp] theorem present_lastNow : (present inputs arrivals rest s).lastNow = s.lastNow := rfl
@[simp] theorem present_refused : (present inputs arrivals rest s).refused = s.refused := rfl
@[simp] theorem present_trace : (present inputs arrivals rest s).trace = s.trace := rfl
@[simp] theorem present_frameBuf : (present inputs arrivals rest s).frameBuf = [] := rfl
@[simp] theorem present_reasm : (present inputs arrivals rest s).reasm = Reassembly.start := rfl
@[simp] theorem present_rxGroups : (present inputs arrivals rest s).rxGroups = 0 := rfl
@[simp] theorem present_inbox : (present inputs arrivals rest s).inbox = s.inbox ++ arrivals := rfl
@[simp] theorem present_inputs : (present inputs arrivals rest s).inputs = inputs := rfl
@[simp] theorem present_stream : (present inputs arrivals rest s).stream = rest := rfl
@[simp] theorem present_answer : (present inputs arrivals rest s).answer = .none := rfl

end

section
variable (code : Encoded)

@[simp] theorem finish_cfg : (finish code s).cfg = s.cfg := rfl
@[simp] theorem finish_ctrlState : (finish code s).ctrlState = s.ctrlState := rfl
@[simp] theorem finish_hsStep : (finish code s).hsStep = s.hsStep := rfl
@[simp] theorem finish_nextTime : (finish code s).nextTime = s.nextTime := rfl
@[simp] theorem finish_queue : (finish code s).queue = s.queue := rfl
@[simp] theorem finish_lastNow : (finish code s).lastNow = s.lastNow := rfl
@[simp] theorem finish_refused : (finish code s).refused = s.refused := rfl
@[simp] theorem finish_trace : (finish code s).trace = s.trace := rfl
@[simp] theorem finish_inbox : (finish code s).inbox = s.inbox := rfl
@[simp] theorem finish_inputs : (finish code s).inputs = s.inputs := rfl
@[simp] theorem finish_stream : (finish code s).stream = s.stream := rfl
@[simp] theorem finish_frameBuf : (finish code s).frameBuf = [] := rfl
@[simp] theorem finish_reasm : (finish code s).reasm = Reassembly.start := rfl
@[simp] theorem finish_rxGroups : (finish code s).rxGroups = 0 := rfl
@[simp] theorem finish_answer : (finish code s).answer = operationAnswer code s := rfl

/-- Only a codec operation without an answer yet gets one when it is over. -/
@[simp] theorem operationAnswer_request (w : RequestWord) : operationAnswer (.request w) s = s.answer := by
  unfold operationAnswer; cases s.answer <;> rfl

theorem operationAnswer_of_answered {a : Answer} (h : s.answer = a) (ha : a ≠ .none) :
    operationAnswer code s = a := by
  unfold operationAnswer; rw [h]; cases a <;> first | rfl | exact absurd rfl ha

theorem operationAnswer_eq_response {w : ResponseWord} :
    operationAnswer code s = .response w ↔ s.answer = .response w := by
  unfold operationAnswer; cases s.answer <;> cases code <;> simp

theorem operationAnswer_eq_refused {r : Reason} :
    operationAnswer code s = .refused r ↔ s.answer = .refused r := by
  unfold operationAnswer; cases s.answer <;> cases code <;> simp

end

end Sys2Proof.Machine
end

