-- ==== Sys2Proof/Laws/Ops.lean ====
section
/-! SUPPORT. One lemma for each shared operation: everything it can do. -/

namespace Sys2Proof.Machine

/-- Enqueue, as one record update: at capacity the oldest entry is dropped and reported (R131). -/
theorem enqueue_eq (c : Command) (s : State) :
    enqueue c s =
      { s with
        queue := (if evicts s then s.queue.tail else s.queue) ++ [c],
        trace := s.trace ++ (if evicts s then (s.queue.take 1).map .evict else []) } := by
  unfold enqueue
  cases h : evicts s
  · simp [append, setQueue]
  · cases hq : s.queue <;> simp [append, setQueue, evictOldest, emit, hq]

/-- Enqueue never goes past the capacity of a legal configuration (R130). -/
theorem enqueue_length_le {c : Command} {s : State} (hn : 1 ≤ s.cfg.queueN)
    (h : s.queue.length ≤ s.cfg.queueN) : (enqueue c s).queue.length ≤ s.cfg.queueN := by
  rw [enqueue_eq]
  by_cases he : evicts s <;> simp [evicts] at he ⊢ <;> split <;> simp_all <;> omega

theorem mem_of_mem_enqueue {c d : Command} {s : State} (h : d ∈ (enqueue c s).queue) :
    d ∈ s.queue ∨ d = c := by
  rw [enqueue_eq] at h
  by_cases he : evicts s <;> simp [he] at h
  · exact h.imp List.mem_of_mem_tail id
  · exact h

/-- Dequeue takes the oldest entry (R134). -/
theorem dequeue_eq_some {s t : State} {c : Command} (h : dequeue s = some (c, t)) :
    ∃ rest, s.queue = c :: rest ∧ t = { s with queue := rest } := by
  unfold dequeue at h
  split at h
  · cases h
  · next d rest hq => cases h; exact ⟨rest, hq, rfl⟩

theorem dequeue_eq_none {s : State} : dequeue s = none ↔ s.queue = [] := by
  unfold dequeue; split <;> simp_all

/-- A received packet is the oldest one the transport holds (R204). -/
theorem received_eq_some {s : State} {p : Packet} (h : received s = some p) :
    s.inputs.offers = true ∧ ∃ rest, s.inbox = p :: rest ∧ takePacket s = { s with inbox := rest } := by
  unfold received at h
  split at h
  · next ho => cases hi : s.inbox with
    | nil => simp [hi] at h
    | cons q rest => simp [hi] at h; subst h; exact ⟨ho, rest, rfl, by simp [takePacket, ho, hi]⟩
  · cases h

/-- The refusal mark keeps the first reason (R191). -/
theorem firstReason_some (old : Option Reason) (r : Reason) : ∃ r', firstReason old r = some r' := by
  cases old <;> exact ⟨_, rfl⟩

@[simp] theorem firstReason_of_some (r r' : Reason) : firstReason (some r) r' = some r := rfl

@[simp] theorem firstReason_none (r : Reason) : firstReason none r = some r := rfl

theorem lengthOk_iff {s : State} {len : BitVec 8} : lengthOk s len = true ↔ LegalLen s.cfg len := by
  simp [lengthOk]

theorem timerExpired_iff {s : State} : timerExpired s = true ↔ s.nextTime ≤ s.inputs.now := by
  simp [timerExpired]

theorem groupFits_iff {s : State} : groupFits s = true ↔ 4 * (s.rxGroups + 1) ≤ s.cfg.rxMaxBytes := by
  simp [groupFits]

/-- A group is read, within RX_MAX_BYTES, or refused past it (R110, R152). -/
theorem acceptGroup_cases (cin : BitVec 4) (d1 d2 d3 : Byte) (s : State) :
    (4 * (s.rxGroups + 1) ≤ s.cfg.rxMaxBytes ∧ acceptGroup cin d1 d2 d3 s = loadGroup cin d1 d2 d3 s) ∨
      (s.cfg.rxMaxBytes < 4 * (s.rxGroups + 1) ∧ acceptGroup cin d1 d2 d3 s = refuse .rxTooLong s) := by
  unfold acceptGroup
  by_cases h : groupFits s = true
  · exact .inl ⟨groupFits_iff.mp h, if_pos h⟩
  · exact .inr ⟨by have := groupFits_iff.not.mp h; omega, if_neg h⟩

/-- POLL's time checks pass exactly when `Now` does not go back and leaves room for MAX_WAIT (R150,
R168). -/
theorem timeRefusal_eq_none {s : State} :
    timeRefusal s = none ↔
      (∀ t, s.lastNow = some t → t ≤ s.inputs.now) ∧ s.inputs.now + s.cfg.maxWait ≤ s.cfg.maxTime := by
  unfold timeRefusal timeGoesBack timeOverflows
  cases s.lastNow <;> simp
  constructor
  · intro h; split at h <;> simp_all
  · intro h; rw [if_neg (by omega)]; simpa using h.2

/-- Every interval a POLL loads the timer with is at most MAX_WAIT (R154, R168). -/
theorem interval_le_maxWait (c : Config) :
    c.hsDelay ≤ c.maxWait ∧ c.initDelay ≤ c.maxWait ∧ c.receiveInterval ≤ c.maxWait ∧
      c.readInterval ≤ c.maxWait ∧ c.writeInterval ≤ c.maxWait := by
  unfold Config.maxWait; omega

end Sys2Proof.Machine
end

