-- ==== Sys2Proof/Laws/PerInstr.lean ====
section
/-! SUPPORT. Per instruction: what the encoder writes agrees with the instruction's row of the opcode
table, its match under its mask, or its frame pattern's fixed bytes. -/

namespace Sys2Proof.Laws.TableRow

/-- The word's bits under the row's mask are the row's match. -/
def RequestRow (mask pattern : RequestWord) : Encoded → Prop
  | .request w => w &&& mask = pattern
  | _ => False

/-- The first byte's bits under the mask 0x0F are the CIN. -/
def GroupRow (cin : Byte) : Encoded → Prop
  | .group b0 _ _ _ => b0 &&& 0x0F = cin
  | _ => False

/-- START, the identifier, the action byte and END stand where the row's pattern has them. -/
def FrameRow (cfg : Config) (action : Byte) : Encoded → Prop
  | .frame f => (∃ rest, f = startByte :: cfg.wireId.bytes ++ action :: rest) ∧ f.getLast? = some endByte
  | _ => False

/-- The instruction's encoding, under every configuration, is one of its row's words. -/
def Statement : Instr → Prop
  | .nop => ∀ cfg, RequestRow 0xFFFFFFFFFFFFFFFF 0x0 (encode cfg .nop)
  | .write addr value len => ∀ cfg, RequestRow 0x00000000FF0000FF 0x1 (encode cfg (.write addr value len))
  | .read addr probe => ∀ cfg, RequestRow 0x00000000FF00FFFF 0x2 (encode cfg (.read addr probe))
  | .poll => ∀ cfg, RequestRow 0xFFFFFFFFFFFFFFFF 0x3 (encode cfg .poll)
  | .queryEmpty => ∀ cfg, RequestRow 0xFFFFFFFFFFFFFFFF 0x4 (encode cfg .queryEmpty)
  | .reserved5 rest => ∀ cfg, RequestRow 0xF 0x5 (encode cfg (.reserved5 rest))
  | .reserved6 rest => ∀ cfg, RequestRow 0xF 0x6 (encode cfg (.reserved6 rest))
  | .reserved7 rest => ∀ cfg, RequestRow 0xF 0x7 (encode cfg (.reserved7 rest))
  | .reserved8 rest => ∀ cfg, RequestRow 0xF 0x8 (encode cfg (.reserved8 rest))
  | .reserved9 rest => ∀ cfg, RequestRow 0xF 0x9 (encode cfg (.reserved9 rest))
  | .reservedA rest => ∀ cfg, RequestRow 0xF 0xA (encode cfg (.reservedA rest))
  | .reservedB rest => ∀ cfg, RequestRow 0xF 0xB (encode cfg (.reservedB rest))
  | .reservedC rest => ∀ cfg, RequestRow 0xF 0xC (encode cfg (.reservedC rest))
  | .reservedD rest => ∀ cfg, RequestRow 0xF 0xD (encode cfg (.reservedD rest))
  | .reservedE rest => ∀ cfg, RequestRow 0xF 0xE (encode cfg (.reservedE rest))
  | .reservedF rest => ∀ cfg, RequestRow 0xF 0xF (encode cfg (.reservedF rest))
  | .writeFrame addr value len => ∀ cfg, FrameRow cfg 0x12 (encode cfg (.writeFrame addr value len))
  | .readFrame addr probe => ∀ cfg, FrameRow cfg 0x11 (encode cfg (.readFrame addr probe))
  | .handshake => ∀ cfg, encode cfg .handshake =
      .frame [0xF0, 0x7E, 0x00, 0x06, 0x02, 0x41, 0x3B, 0x03, 0x00, 0x00, 0x00, 0x00, 0x00, 0x00, 0xF7]
  | .editFrame => ∀ cfg, encode cfg .editFrame =
      .frame ([0xF0] ++ cfg.wireId.bytes ++ [0x12, 0x7F, 0x00, 0x00, 0x01, 0x01, 0x7F, 0xF7])
  | .cin0Terminate cable d1 d2 d3 => ∀ cfg, GroupRow 0x0 (encode cfg (.cin0Terminate cable d1 d2 d3))
  | .cin1Terminate cable d1 d2 d3 => ∀ cfg, GroupRow 0x1 (encode cfg (.cin1Terminate cable d1 d2 d3))
  | .cin2Terminate cable d1 d2 d3 => ∀ cfg, GroupRow 0x2 (encode cfg (.cin2Terminate cable d1 d2 d3))
  | .cin3Terminate cable d1 d2 d3 => ∀ cfg, GroupRow 0x3 (encode cfg (.cin3Terminate cable d1 d2 d3))
  | .cin4 cable d1 d2 d3 => ∀ cfg, GroupRow 0x4 (encode cfg (.cin4 cable d1 d2 d3))
  | .cin5 cable d1 d2 d3 => ∀ cfg, GroupRow 0x5 (encode cfg (.cin5 cable d1 d2 d3))
  | .cin6 cable d1 d2 d3 => ∀ cfg, GroupRow 0x6 (encode cfg (.cin6 cable d1 d2 d3))
  | .cin7 cable d1 d2 d3 => ∀ cfg, GroupRow 0x7 (encode cfg (.cin7 cable d1 d2 d3))
  | .cin8Terminate cable d1 d2 d3 => ∀ cfg, GroupRow 0x8 (encode cfg (.cin8Terminate cable d1 d2 d3))
  | .cin9Terminate cable d1 d2 d3 => ∀ cfg, GroupRow 0x9 (encode cfg (.cin9Terminate cable d1 d2 d3))
  | .cinATerminate cable d1 d2 d3 => ∀ cfg, GroupRow 0xA (encode cfg (.cinATerminate cable d1 d2 d3))
  | .cinBTerminate cable d1 d2 d3 => ∀ cfg, GroupRow 0xB (encode cfg (.cinBTerminate cable d1 d2 d3))
  | .cinCTerminate cable d1 d2 d3 => ∀ cfg, GroupRow 0xC (encode cfg (.cinCTerminate cable d1 d2 d3))
  | .cinDTerminate cable d1 d2 d3 => ∀ cfg, GroupRow 0xD (encode cfg (.cinDTerminate cable d1 d2 d3))
  | .cinETerminate cable d1 d2 d3 => ∀ cfg, GroupRow 0xE (encode cfg (.cinETerminate cable d1 d2 d3))
  | .cinFTerminate cable d1 d2 d3 => ∀ cfg, GroupRow 0xF (encode cfg (.cinFTerminate cable d1 d2 d3))

/-- The OP of a reserved request word, under the mask of its row. -/
theorem reservedWord_row (op : BitVec 4) (rest : BitVec 60) :
    reservedWord op rest &&& 0xF = (0 : BitVec 60) ++ op := by
  have hm : (0xF : RequestWord) = (0 : BitVec 60) ++ (0xF : BitVec 4) := by decide
  rw [hm]
  refine BitVec.and_append.trans ?_
  congr 1
  · simp
  · exact BitVec.and_allOnes

theorem nop : Statement .nop := fun _ => by
  show requestWord 0x0 0 0 0 &&& _ = _
  decide

theorem write (addr : ParamAddr) (value : Byte) (len : BitVec 8) :
    Statement (.write addr value len) := fun _ => by
  have hm : (0x00000000FF0000FF : RequestWord) = (0 : BitVec 32) ++ (0xFF : BitVec 8) ++ (0 : BitVec 8) ++
      (0 : BitVec 8) ++ (0xF : BitVec 4) ++ (0xF : BitVec 4) := by decide
  show requestWord 0x1 len value addr &&& _ = _
  rw [hm]
  refine BitVec.and_append.trans ?_
  rw [BitVec.and_append, BitVec.and_append, BitVec.and_append, BitVec.and_append]
  simp

theorem read (addr : ParamAddr) (probe : Byte) : Statement (.read addr probe) := fun _ => by
  have hm : (0x00000000FF00FFFF : RequestWord) = (0 : BitVec 32) ++ (0xFF : BitVec 8) ++ (0 : BitVec 8) ++
      (0xFF : BitVec 8) ++ (0xF : BitVec 4) ++ (0xF : BitVec 4) := by decide
  show requestWord 0x2 0 probe addr &&& _ = _
  rw [hm]
  refine BitVec.and_append.trans ?_
  rw [BitVec.and_append, BitVec.and_append, BitVec.and_append, BitVec.and_append]
  simp

theorem poll : Statement .poll := fun _ => by
  show requestWord 0x3 0 0 0 &&& _ = _
  decide

theorem queryEmpty : Statement .queryEmpty := fun _ => by
  show requestWord 0x4 0 0 0 &&& _ = _
  decide

theorem reserved5 (rest : BitVec 60) : Statement (.reserved5 rest) :=
  fun _ => (reservedWord_row 0x5 rest).trans (by decide)

theorem reserved6 (rest : BitVec 60) : Statement (.reserved6 rest) :=
  fun _ => (reservedWord_row 0x6 rest).trans (by decide)

theorem reserved7 (rest : BitVec 60) : Statement (.reserved7 rest) :=
  fun _ => (reservedWord_row 0x7 rest).trans (by decide)

theorem reserved8 (rest : BitVec 60) : Statement (.reserved8 rest) :=
  fun _ => (reservedWord_row 0x8 rest).trans (by decide)

theorem reserved9 (rest : BitVec 60) : Statement (.reserved9 rest) :=
  fun _ => (reservedWord_row 0x9 rest).trans (by decide)

theorem reservedA (rest : BitVec 60) : Statement (.reservedA rest) :=
  fun _ => (reservedWord_row 0xA rest).trans (by decide)

theorem reservedB (rest : BitVec 60) : Statement (.reservedB rest) :=
  fun _ => (reservedWord_row 0xB rest).trans (by decide)

theorem reservedC (rest : BitVec 60) : Statement (.reservedC rest) :=
  fun _ => (reservedWord_row 0xC rest).trans (by decide)

theorem reservedD (rest : BitVec 60) : Statement (.reservedD rest) :=
  fun _ => (reservedWord_row 0xD rest).trans (by decide)

theorem reservedE (rest : BitVec 60) : Statement (.reservedE rest) :=
  fun _ => (reservedWord_row 0xE rest).trans (by decide)

theorem reservedF (rest : BitVec 60) : Statement (.reservedF rest) :=
  fun _ => (reservedWord_row 0xF rest).trans (by decide)

/-- The fixed bytes of every frame that goes through Encode. -/
theorem frameOf_row (cfg : Config) (action : Byte) (addr : ParamAddr) (len : Nat) (value : Byte) :
    FrameRow cfg action (.frame (frameOf cfg action addr len value)) :=
  ⟨⟨_, by simp only [frameOf, List.append_assoc]; rfl⟩, by simp [frameOf, List.getLast?_cons, List.getLast?_append]⟩

theorem writeFrame (addr : ParamAddr) (value : Byte) (len : BitVec 8) :
    Statement (.writeFrame addr value len) := fun cfg => frameOf_row cfg actWrite addr len.toNat value

theorem readFrame (addr : ParamAddr) (probe : Byte) : Statement (.readFrame addr probe) :=
  fun cfg => frameOf_row cfg actRead addr readLen.toNat probe

theorem handshake : Statement .handshake := fun _ => rfl

theorem editFrame : Statement .editFrame := fun cfg => by
  have h : frameWindow editAddr 1 editValue = [0x7F, 0x00, 0x00, 0x01, 0x01] := by decide
  have hc : checksumOf [0x7F, 0x00, 0x00, 0x01, 0x01] = 0x7F := by decide
  simp only [encode, frameOf, h, hc, List.append_assoc]
  rfl

/-- The CIN of a group's first byte, under the mask of its row. -/
theorem groupOf_row (cin cable : BitVec 4) (d1 d2 d3 : Byte) :
    GroupRow ((0 : BitVec 4) ++ cin) (groupOf cin cable d1 d2 d3) := by
  have hm : (0x0F : Byte) = (0 : BitVec 4) ++ (0xF : BitVec 4) := by decide
  show (cable ++ cin) &&& (0x0F : Byte) = (0 : BitVec 4) ++ cin
  rw [hm]
  refine BitVec.and_append.trans ?_
  congr 1
  · simp
  · exact BitVec.and_allOnes

theorem cin0Terminate (cable : BitVec 4) (d1 d2 d3 : Byte) : Statement (.cin0Terminate cable d1 d2 d3) :=
  fun _ => groupOf_row 0x0 cable d1 d2 d3

theorem cin1Terminate (cable : BitVec 4) (d1 d2 d3 : Byte) : Statement (.cin1Terminate cable d1 d2 d3) :=
  fun _ => groupOf_row 0x1 cable d1 d2 d3

theorem cin2Terminate (cable : BitVec 4) (d1 d2 d3 : Byte) : Statement (.cin2Terminate cable d1 d2 d3) :=
  fun _ => groupOf_row 0x2 cable d1 d2 d3

theorem cin3Terminate (cable : BitVec 4) (d1 d2 d3 : Byte) : Statement (.cin3Terminate cable d1 d2 d3) :=
  fun _ => groupOf_row 0x3 cable d1 d2 d3

theorem cin4 (cable : BitVec 4) (d1 d2 d3 : Byte) : Statement (.cin4 cable d1 d2 d3) :=
  fun _ => groupOf_row 0x4 cable d1 d2 d3

theorem cin5 (cable : BitVec 4) (d1 d2 d3 : Byte) : Statement (.cin5 cable d1 d2 d3) :=
  fun _ => groupOf_row 0x5 cable d1 d2 d3

theorem cin6 (cable : BitVec 4) (d1 d2 d3 : Byte) : Statement (.cin6 cable d1 d2 d3) :=
  fun _ => groupOf_row 0x6 cable d1 d2 d3

theorem cin7 (cable : BitVec 4) (d1 d2 d3 : Byte) : Statement (.cin7 cable d1 d2 d3) :=
  fun _ => groupOf_row 0x7 cable d1 d2 d3

theorem cin8Terminate (cable : BitVec 4) (d1 d2 d3 : Byte) : Statement (.cin8Terminate cable d1 d2 d3) :=
  fun _ => groupOf_row 0x8 cable d1 d2 d3

theorem cin9Terminate (cable : BitVec 4) (d1 d2 d3 : Byte) : Statement (.cin9Terminate cable d1 d2 d3) :=
  fun _ => groupOf_row 0x9 cable d1 d2 d3

theorem cinATerminate (cable : BitVec 4) (d1 d2 d3 : Byte) : Statement (.cinATerminate cable d1 d2 d3) :=
  fun _ => groupOf_row 0xA cable d1 d2 d3

theorem cinBTerminate (cable : BitVec 4) (d1 d2 d3 : Byte) : Statement (.cinBTerminate cable d1 d2 d3) :=
  fun _ => groupOf_row 0xB cable d1 d2 d3

theorem cinCTerminate (cable : BitVec 4) (d1 d2 d3 : Byte) : Statement (.cinCTerminate cable d1 d2 d3) :=
  fun _ => groupOf_row 0xC cable d1 d2 d3

theorem cinDTerminate (cable : BitVec 4) (d1 d2 d3 : Byte) : Statement (.cinDTerminate cable d1 d2 d3) :=
  fun _ => groupOf_row 0xD cable d1 d2 d3

theorem cinETerminate (cable : BitVec 4) (d1 d2 d3 : Byte) : Statement (.cinETerminate cable d1 d2 d3) :=
  fun _ => groupOf_row 0xE cable d1 d2 d3

theorem cinFTerminate (cable : BitVec 4) (d1 d2 d3 : Byte) : Statement (.cinFTerminate cable d1 d2 d3) :=
  fun _ => groupOf_row 0xF cable d1 d2 d3

end Sys2Proof.Laws.TableRow
end

