-- ==== Sys2Proof/Laws/Poll.lean ====
section
/-! SUPPORT. Everything a POLL can do: its refusals, and one case of R154's pseudocode each. -/

namespace Sys2Proof.Machine

/-- A POLL in READY that found nothing to send or sent one command, from the state `s` after the
receive. -/
inductive DispatchCase (s t : State) : Prop where
  | send (c : Command) (rest : List Command) (queue_eq : s.queue = c :: rest)
      (due : s.nextTime ≤ s.inputs.now) (legal : LegalLen s.cfg c.len)
      (eq : t = pollSend c (setQueue rest s))
  | idle (nothing : s.inputs.now < s.nextTime ∨ s.queue = []) (eq : t = pollIdle s)

theorem pollDispatch_cases {s t : State} (h : pollDispatch s = .next t) : DispatchCase s t := by
  unfold pollDispatch at h
  split at h
  · next hd =>
    split at h
    · next c s1 hq =>
      obtain ⟨rest, hs, rfl⟩ := dequeue_eq_some hq
      split at h
      · next hl => cases h; exact .send c rest hs (timerExpired_iff.mp hd) (lengthOk_iff.mp hl) rfl
      · cases h
    · next hq => cases h; exact .idle (.inr (dequeue_eq_none.mp hq)) rfl
  · next hd =>
    cases h
    exact .idle (.inl (by simpa [timerExpired] using hd)) rfl

/-- Every way a POLL completes or is refused, with the condition it does so under. -/
inductive PollCase (s t : State) : Prop where
  | badTime (r : Reason) (refusal : timeRefusal s = some r) (eq : t = refuse r s)
  | disconnected (timely : timeRefusal s = none) (off : s.inputs.connected = false)
      (eq : t = pollDisconnected s)
  | connect (timely : timeRefusal s = none) (on : s.inputs.connected = true)
      (ctrl : s.ctrlState = ctrlDisconnected) (eq : t = pollConnect s)
  | wait (timely : timeRefusal s = none) (on : s.inputs.connected = true)
      (ctrl : s.ctrlState = ctrlHandshaking) (early : s.inputs.now < s.nextTime) (eq : t = pollWait s)
  | secondHandshake (timely : timeRefusal s = none) (on : s.inputs.connected = true)
      (ctrl : s.ctrlState = ctrlHandshaking) (due : s.nextTime ≤ s.inputs.now) (hs : s.hsStep = 1)
      (eq : t = pollSecondHandshake s)
  | editMode (timely : timeRefusal s = none) (on : s.inputs.connected = true)
      (ctrl : s.ctrlState = ctrlHandshaking) (due : s.nextTime ≤ s.inputs.now) (hs : s.hsStep = 2)
      (eq : t = pollEditMode s)
  | justReady (timely : timeRefusal s = none) (on : s.inputs.connected = true)
      (ctrl : s.ctrlState = ctrlHandshaking) (due : s.nextTime ≤ s.inputs.now) (hs : s.hsStep = 3)
      (eq : t = pollJustReady s)
  | rxTooLong (timely : timeRefusal s = none) (on : s.inputs.connected = true)
      (ctrl : s.ctrlState = ctrlReady) (p : Packet) (rx : received s = some p)
      (long : s.cfg.rxMaxBytes < p.length) (eq : t = refuse .rxTooLong (takePacket s))
  | receive (timely : timeRefusal s = none) (on : s.inputs.connected = true)
      (ctrl : s.ctrlState = ctrlReady) (p : Packet) (rx : received s = some p)
      (short : p.length ≤ s.cfg.rxMaxBytes) (addr : ParamAddr) (value : Byte)
      (decoded : decodePacket s.cfg p = some (addr, value))
      (eq : t = pollReceived addr value (takePacket s))
  | discard (timely : timeRefusal s = none) (on : s.inputs.connected = true)
      (ctrl : s.ctrlState = ctrlReady) (p : Packet) (rx : received s = some p)
      (short : p.length ≤ s.cfg.rxMaxBytes) (undecoded : decodePacket s.cfg p = none)
      (dispatch : DispatchCase (takePacket s) t)
  | noPacket (timely : timeRefusal s = none) (on : s.inputs.connected = true)
      (ctrl : s.ctrlState = ctrlReady) (rx : received s = none) (dispatch : DispatchCase s t)

theorem pollHandshaking_cases {s t : State} (timely : timeRefusal s = none)
    (on : s.inputs.connected = true) (ctrl : s.ctrlState = ctrlHandshaking)
    (h : pollHandshaking s = .next t) : PollCase s t := by
  unfold pollHandshaking at h
  split at h
  · next hd => cases h; exact .wait timely on ctrl (by simpa [timerExpired] using hd) rfl
  · next hd =>
    have due : s.nextTime ≤ s.inputs.now := by simpa [timerExpired] using hd
    split at h
    · next hs => cases h; exact .secondHandshake timely on ctrl due hs rfl
    · split at h
      · next hs => cases h; exact .editMode timely on ctrl due hs rfl
      · split at h
        · next hs => cases h; exact .justReady timely on ctrl due hs rfl
        · cases h

theorem pollReady_cases {s t : State} (timely : timeRefusal s = none) (on : s.inputs.connected = true)
    (ctrl : s.ctrlState = ctrlReady) (h : pollReady s = .next t) : PollCase s t := by
  unfold pollReady at h
  split at h
  · next p rx =>
    unfold pollPacket at h
    simp only [takePacket_cfg] at h
    split at h
    · next hl => cases h; exact .rxTooLong timely on ctrl p rx hl rfl
    · next hl =>
      have short : p.length ≤ s.cfg.rxMaxBytes := by omega
      split at h
      · next a v hdec => cases h; exact .receive timely on ctrl p rx short a v hdec rfl
      · next hdec => exact .discard timely on ctrl p rx short hdec (pollDispatch_cases h)
  · next rx => exact .noPacket timely on ctrl rx (pollDispatch_cases h)

/-- What a POLL that answers a next state has done. -/
theorem execPoll_cases {s t : State} (h : execPoll s = .next t) : PollCase s t := by
  unfold execPoll at h
  split at h
  · next r hr => cases h; exact .badTime r hr rfl
  · next timely =>
    split at h
    · next on =>
      unfold pollConnected at h
      split at h
      · next hc => cases h; exact .connect timely on hc rfl
      · split at h
        · next hc => exact pollHandshaking_cases timely on hc h
        · split at h
          · next hc => exact pollReady_cases timely on hc h
          · cases h
    · next off => cases h; exact .disconnected timely (by simpa using off) rfl

end Sys2Proof.Machine
end

