-- ==== Sys2Proof/Laws/PollForward.lean ====
section
/-! SUPPORT. Which case a POLL takes under the conditions statements name, and small facts they share. -/

namespace Sys2Proof.Machine

theorem firstReason_eq_markAfter (r : Reason) (s : State) : firstReason s.refused r = markAfter r s := by
  unfold firstReason markAfter
  cases s.refused <;> rfl

/-- The edit-mode frame's bytes (R81). -/
theorem encode_editCommand (cfg : Config) : encodeCommand cfg editCommand =
    [0xF0] ++ cfg.wireId.bytes ++ [0x12, 0x7F, 0x00, 0x00, 0x01, 0x01, 0x7F, 0xF7] := by
  have h : frameWindow editAddr 1 editValue = [0x7F, 0x00, 0x00, 0x01, 0x01] := by decide
  simp [encodeCommand, editCommand, frameOf, h, actionByte, actWrite, startByte, endByte]
  decide

theorem isEmpty_eq (s : State) : isEmpty s = decide (s.queue = []) := by
  unfold isEmpty
  cases s.queue <;> simp

theorem timeRefusal_of_timely {s : State} (h : Timely s) : timeRefusal s = none :=
  timeRefusal_eq_none.mpr h

theorem execPoll_connected {s : State} {ctrl : BitVec 2} (h : PollAt ctrl s) :
    execPoll s = pollConnected s := by
  unfold execPoll
  rw [timeRefusal_of_timely h.1]
  simp [h.2.1]

theorem execPoll_disconnected {s : State} (h : PollAt ctrlDisconnected s) :
    execPoll s = .next (pollConnect s) := by
  rw [execPoll_connected h, pollConnected, if_pos h.2.2]

theorem execPoll_handshaking {s : State} (h : PollAt ctrlHandshaking s) :
    execPoll s = pollHandshaking s := by
  rw [execPoll_connected h, pollConnected, h.2.2]
  rfl

theorem execPoll_ready {s : State} (h : PollAt ctrlReady s) : execPoll s = pollReady s := by
  rw [execPoll_connected h, pollConnected, h.2.2]
  rfl

theorem received_of_receives {s : State} {p : Packet} {rest : List Packet} (h : Receives s p rest) :
    received s = some p := by
  simp [received, h.1, h.2]

theorem takePacket_of_receives {s : State} {p : Packet} {rest : List Packet} (h : Receives s p rest) :
    takePacket s = { s with inbox := rest } := by
  simp [takePacket, h.1, h.2]

/-- A READY cycle that decodes nothing goes on to the dispatch (R161, R173). -/
theorem pollReady_nothing {s : State} {rest : List Packet} (h : NothingDecoded s rest) :
    pollReady s = pollDispatch { s with inbox := rest } := by
  unfold pollReady
  rcases h with ⟨h1, rfl⟩ | ⟨p, hr, hl, hd⟩
  · have : received s = none := by
      unfold received
      rcases h1 with h1 | h1 <;> simp [h1]
    rw [this]
  · rw [received_of_receives hr, takePacket_of_receives hr]
    simp only [pollPacket, if_neg (Nat.not_lt.mpr hl), hd]

theorem pollDispatch_send {s : State} {c : Command} {rest : List Command} (due : s.nextTime ≤ s.inputs.now)
    (hq : s.queue = c :: rest) (hl : LegalLen s.cfg c.len) :
    pollDispatch s = .next (pollSend c (setQueue rest s)) := by
  have hd : dequeue s = some (c, setQueue rest s) := by unfold dequeue; rw [hq]
  have hk : lengthOk s c.len = true := lengthOk_iff.mpr hl
  rw [pollDispatch, if_pos (timerExpired_iff.mpr due), hd]
  exact if_pos hk

theorem pollDispatch_idle {s : State} (h : s.inputs.now < s.nextTime ∨ s.queue = []) :
    pollDispatch s = .next (pollIdle s) := by
  unfold pollDispatch
  split
  · next hd =>
    have hq : s.queue = [] := by
      rcases h with h | h
      · have := timerExpired_iff.mp hd; omega
      · exact h
    rw [dequeue_eq_none.mpr hq]
  · rfl

theorem pollDispatch_illegal {s : State} {c : Command} {rest : List Command}
    (due : s.nextTime ≤ s.inputs.now) (hq : s.queue = c :: rest) (hl : ¬LegalLen s.cfg c.len) :
    pollDispatch s = .fault .illegalLength := by
  have hd : dequeue s = some (c, setQueue rest s) := by unfold dequeue; rw [hq]
  have hk : ¬lengthOk s c.len = true := fun h => hl (lengthOk_iff.mp h)
  rw [pollDispatch, if_pos (timerExpired_iff.mpr due), hd]
  exact if_neg hk

/-- The frames of a list of events, over an append. -/
@[simp] theorem txFrames_append (a b : List Event) : txFrames (a ++ b) = txFrames a ++ txFrames b := by
  induction a with
  | nil => rfl
  | cons e es ih => cases e <;> simp [txFrames, ih]

end Sys2Proof.Machine
end

