-- ==== Sys2Proof/Laws/Step.lean ====
section
/-! SUPPORT. Everything an instruction and a step can do. -/

namespace Sys2Proof.Machine

/-- Every way an instruction answers a next state. -/
inductive ExecCase (i : Instr) (s t : State) : Prop where
  | poll (instr : i = .poll) (case : PollCase s t)
  | enqueue (c : Command)
      (instr : (∃ addr value len, i = .write addr value len ∧ c = writeCommand addr value len ∧
          LegalLen s.cfg len) ∨ (∃ addr probe, i = .read addr probe ∧ c = readCommand addr probe))
      (eq : t = enqueueAnswer c s)
  | query (instr : i = .nop ∨ i = .queryEmpty) (eq : t = respond (queryResponse s) s)
  | refusal (r : Reason) (reason : r = .badOpcode ∨ r = .badLength ∨ r = .rxTooLong) (instr : i ≠ .poll)
      (eq : t = refuse r s)
  | frame (f : Frame) (instr : frameBytes s.cfg i = some f) (eq : t = loadFrame f s)
  | group (cin cable : BitVec 4) (d1 d2 d3 : Byte) (instr : encode s.cfg i = groupOf cin cable d1 d2 d3)
      (fits : 4 * (s.rxGroups + 1) ≤ s.cfg.rxMaxBytes) (eq : t = loadGroup cin d1 d2 d3 s)

theorem composeFrame_eq_next {c : Command} {s t : State} (h : composeFrame c s = .next t) :
    LegalLen s.cfg c.len ∧ t = loadFrame (encodeCommand s.cfg c) s := by
  unfold composeFrame at h
  split at h
  · next hl => cases h; exact ⟨lengthOk_iff.mp hl, rfl⟩
  · cases h

theorem execWrite_cases {addr : ParamAddr} {value : Byte} {len : BitVec 8} {s t : State}
    (h : execWrite addr value len s = .next t) : ExecCase (.write addr value len) s t := by
  unfold execWrite at h
  split at h
  · next hl => cases h; exact .enqueue _ (.inl ⟨_, _, _, rfl, rfl, lengthOk_iff.mp hl⟩) rfl
  · cases h; exact .refusal _ (.inr (.inl rfl)) (by simp) rfl

theorem acceptGroup_execCase {i : Instr} {s : State} (cin cable : BitVec 4) (d1 d2 d3 : Byte)
    (instr : encode s.cfg i = groupOf cin cable d1 d2 d3) :
    ExecCase i s (acceptGroup cin d1 d2 d3 s) := by
  rcases acceptGroup_cases cin d1 d2 d3 s with ⟨fits, eq⟩ | ⟨_, eq⟩
  · exact .group cin cable d1 d2 d3 instr fits eq
  · exact .refusal _ (.inr (.inr rfl)) (by rintro rfl; exact Encoded.noConfusion instr) eq

/-- What an instruction that answers a next state has done. -/
theorem exec_cases {i : Instr} {s t : State} (h : exec i s = .next t) : ExecCase i s t := by
  cases i with
  | poll => exact .poll rfl (execPoll_cases h)
  | write addr value len => exact execWrite_cases h
  | read addr probe => cases h; exact .enqueue _ (.inr ⟨_, _, rfl, rfl⟩) rfl
  | nop => cases h; exact .query (.inl rfl) rfl
  | queryEmpty => cases h; exact .query (.inr rfl) rfl
  | writeFrame addr value len => exact .frame _ rfl (composeFrame_eq_next h).2
  | readFrame addr probe => exact .frame _ rfl (composeFrame_eq_next h).2
  | handshake => cases h; exact .frame _ rfl rfl
  | editFrame => exact .frame _ rfl (composeFrame_eq_next h).2
  | reserved5 rest => cases h; exact .refusal _ (.inl rfl) (by simp) rfl
  | reserved6 rest => cases h; exact .refusal _ (.inl rfl) (by simp) rfl
  | reserved7 rest => cases h; exact .refusal _ (.inl rfl) (by simp) rfl
  | reserved8 rest => cases h; exact .refusal _ (.inl rfl) (by simp) rfl
  | reserved9 rest => cases h; exact .refusal _ (.inl rfl) (by simp) rfl
  | reservedA rest => cases h; exact .refusal _ (.inl rfl) (by simp) rfl
  | reservedB rest => cases h; exact .refusal _ (.inl rfl) (by simp) rfl
  | reservedC rest => cases h; exact .refusal _ (.inl rfl) (by simp) rfl
  | reservedD rest => cases h; exact .refusal _ (.inl rfl) (by simp) rfl
  | reservedE rest => cases h; exact .refusal _ (.inl rfl) (by simp) rfl
  | reservedF rest => cases h; exact .refusal _ (.inl rfl) (by simp) rfl
  | cin4 cable d1 d2 d3 => cases h; exact acceptGroup_execCase _ cable _ _ _ rfl
  | cin5 cable d1 d2 d3 => cases h; exact acceptGroup_execCase _ cable _ _ _ rfl
  | cin6 cable d1 d2 d3 => cases h; exact acceptGroup_execCase _ cable _ _ _ rfl
  | cin7 cable d1 d2 d3 => cases h; exact acceptGroup_execCase _ cable _ _ _ rfl
  | cin0Terminate cable d1 d2 d3 => cases h; exact acceptGroup_execCase _ cable _ _ _ rfl
  | cin1Terminate cable d1 d2 d3 => cases h; exact acceptGroup_execCase _ cable _ _ _ rfl
  | cin2Terminate cable d1 d2 d3 => cases h; exact acceptGroup_execCase _ cable _ _ _ rfl
  | cin3Terminate cable d1 d2 d3 => cases h; exact acceptGroup_execCase _ cable _ _ _ rfl
  | cin8Terminate cable d1 d2 d3 => cases h; exact acceptGroup_execCase _ cable _ _ _ rfl
  | cin9Terminate cable d1 d2 d3 => cases h; exact acceptGroup_execCase _ cable _ _ _ rfl
  | cinATerminate cable d1 d2 d3 => cases h; exact acceptGroup_execCase _ cable _ _ _ rfl
  | cinBTerminate cable d1 d2 d3 => cases h; exact acceptGroup_execCase _ cable _ _ _ rfl
  | cinCTerminate cable d1 d2 d3 => cases h; exact acceptGroup_execCase _ cable _ _ _ rfl
  | cinDTerminate cable d1 d2 d3 => cases h; exact acceptGroup_execCase _ cable _ _ _ rfl
  | cinETerminate cable d1 d2 d3 => cases h; exact acceptGroup_execCase _ cable _ _ _ rfl
  | cinFTerminate cable d1 d2 d3 => cases h; exact acceptGroup_execCase _ cable _ _ _ rfl

/-- What a POLL has done, among an instruction's cases. -/
theorem ExecCase.of_poll {s t : State} (h : ExecCase .poll s t) : PollCase s t := by
  cases h with
  | poll _ h => exact h
  | enqueue c hi _ =>
    rcases hi with ⟨_, _, _, h, _⟩ | ⟨_, _, h, _⟩
    · exact Instr.noConfusion h
    · exact Instr.noConfusion h
  | query hi _ => rcases hi with h | h <;> exact Instr.noConfusion h
  | refusal r _ hi _ => exact absurd rfl hi
  | frame f hi _ => exact Option.noConfusion rfl (heq_of_eq hi)
  | group cin cable d1 d2 d3 hi _ _ => exact Encoded.noConfusion hi

/-- Every way a step answers a next state. -/
inductive StepCase (s t : State) : Prop where
  | idle (stream : s.stream = []) (eq : t = s)
  | reset (rest : List Stimulus) (stream : s.stream = .reset :: rest)
      (eq : t = hardReset { s with stream := rest })
  | rejected (code : Encoded) (inputs : Inputs) (arrivals : List Packet) (rest : List Stimulus)
      (stream : s.stream = .operation code inputs arrivals :: rest)
      (error : decode s.cfg code = .error .reservedBits)
      (eq : t = refuse .reservedBits (present inputs arrivals rest s))
  | run (code : Encoded) (inputs : Inputs) (arrivals : List Packet) (rest : List Stimulus) (i : Instr)
      (stream : s.stream = .operation code inputs arrivals :: rest)
      (decoded : decode s.cfg code = .ok i)
      (u : State) (case : ExecCase i (present inputs arrivals rest s) u) (eq : t = finish code u)

theorem finishOut_eq_next {code : Encoded} {o : Out} {t : State} (h : finishOut code o = .next t) :
    ∃ u, o = .next u ∧ t = finish code u := by
  cases o with
  | next u => cases h; exact ⟨u, rfl, rfl⟩
  | fault f => cases h
  | refused r => cases h

/-- What a step that answers a next state has done. -/
theorem step_cases {s t : State} (h : step s = .next t) : StepCase s t := by
  unfold step fetch at h
  split at h
  · next he =>
    split at he
    · next hs => cases h; exact .idle hs rfl
    · cases he
    · split at he <;> cases he
  · next s1 he =>
    split at he
    · cases he
    · next rest hs => cases he; cases h; exact .reset rest hs rfl
    · split at he <;> cases he
  · next e s1 he =>
    split at he
    · cases he
    · cases he
    · next code inputs arrivals rest hs =>
      split at he
      · cases he
      · next e' hd =>
        cases he
        cases e with
        | reservedBits => cases h; exact .rejected code inputs arrivals rest hs hd rfl
        | notAFrame => cases h
  · next code i s1 he =>
    split at he
    · cases he
    · cases he
    · next code inputs arrivals rest hs =>
      split at he
      · next i' hd =>
        cases he
        obtain ⟨u, hu, rfl⟩ := finishOut_eq_next h
        exact .run code inputs arrivals rest i hs hd u (exec_cases hu) rfl
      · cases he

end Sys2Proof.Machine
end

