-- ==== Sys2Proof/Machine/Assembler.lean ====
section
/-! DEFINITION. The textual syntax of the host operations (30_encoding.md R88, R89): one operation a line,
numbers in decimal or 0x hex, a comment from ';' on (details: notes/assumptions/21.md). Text is a list of
characters. -/

namespace Sys2Proof.Machine

/-- A digit's value in a base up to 16. -/
def digitValue (base : Nat) (c : Char) : Option Nat :=
  let v :=
    if '0' ≤ c ∧ c ≤ '9' then c.toNat - '0'.toNat
    else if 'a' ≤ c ∧ c ≤ 'f' then c.toNat - 'a'.toNat + 10
    else if 'A' ≤ c ∧ c ≤ 'F' then c.toNat - 'A'.toNat + 10
    else 16
  if v < base then some v else none

/-- Digits after a value read so far. -/
def readDigits (base : Nat) : Nat → List Char → Option Nat
  | n, [] => some n
  | n, c :: cs =>
    match digitValue base c with
    | some d => readDigits base (n * base + d) cs
    | none => none

/-- A number (R88): `0x..` or plain decimal, at least one digit. -/
def readNumber : List Char → Option Nat
  | [] => none
  | '0' :: 'x' :: [] => none
  | '0' :: 'x' :: cs => readDigits 16 0 cs
  | cs => readDigits 10 0 cs

/-- A number of `w` bits; one that does not fit is no operand (R88). -/
def readField (w : Nat) (cs : List Char) : Option (BitVec w) :=
  match readNumber cs with
  | some n => if n < 2 ^ w then some (BitVec.ofNat w n) else none
  | none => none

/-- White space within a line. -/
def isBlankChar (c : Char) : Bool := c == ' ' || c == '\t' || c == '\r'

/-- A text without the blanks around it. -/
def trimBlanks (cs : List Char) : List Char :=
  ((cs.dropWhile isBlankChar).reverse.dropWhile isBlankChar).reverse

/-- The texts between commas, blanks around each taken off. -/
def operandsOf (cs : List Char) : List (List Char) :=
  if cs = [] then [] else (cs.splitOn ',').map trimBlanks

/-- `write <addr>, <value>[, <len>]`; without a length it is 1 (R88, R89). -/
def assembleWrite (addr value len : List Char) : Option Instr :=
  match readField 32 addr, readField 8 value, readField 8 len with
  | some a, some v, some l => some (.write a v l)
  | _, _, _ => none

/-- `read <addr>, <probe>` (R88). -/
def assembleRead (addr probe : List Char) : Option Instr :=
  match readField 32 addr, readField 8 probe with
  | some a, some p => some (.read a p)
  | _, _ => none

/-- The instruction of a mnemonic and its operands (R88, R89). -/
def assembleOperation (mnemonic : List Char) (operands : List (List Char)) : Option Instr :=
  if mnemonic = ['n', 'o', 'p'] ∧ operands = [] then some .nop
  else if mnemonic = ['p', 'o', 'l', 'l'] ∧ operands = [] then some .poll
  else if mnemonic = ['q', 'e', 'm', 'p', 't', 'y'] ∧ operands = [] then some .queryEmpty
  else if mnemonic = ['w', 'r', 'i', 't', 'e'] then
    match operands with
    | [addr, value] => assembleWrite addr value ['1']
    | [addr, value, len] => assembleWrite addr value len
    | _ => none
  else if mnemonic = ['r', 'e', 'a', 'd'] then
    match operands with
    | [addr, probe] => assembleRead addr probe
    | _ => none
  else none

/-- One line of text: its comment is dropped (R88); a line that holds no operation gives none. -/
def assembleLine (line : List Char) : Option Instr :=
  let text := trimBlanks (line.takeWhile (· != ';'))
  assembleOperation (text.takeWhile (fun c => !isBlankChar c))
    (operandsOf (trimBlanks (text.dropWhile (fun c => !isBlankChar c))))

end Sys2Proof.Machine
end

