-- ==== Sys2Proof/Tests/Slice0.lean ====
section
/-! SUPPORT. Tests: expected values are those of 95_test_vectors.md (the V-, S- and P-numbers named) or of
the rule named. -/

namespace Sys2Proof.Tests

open Sys2Proof.Machine

/-- The vectors' configuration: defaults, TIME_W 32, and I1..I6 = 01..06. -/
def testCfg : Config := { Config.defaults with wireId := ⟨0x01, 0x02, 0x03, 0x04, 0x05, 0x06⟩ }

/-! ### Decoding: a word of every row, written out from its encoding -/

theorem test_decode_nop : decode testCfg (.request 0x0000000000000000) = .ok .nop := by decide
theorem test_decode_write :
    decode testCfg (.request 0x2001200000010101) = .ok (.write 0x20012000 0x01 1) := by decide
theorem test_decode_read :
    decode testCfg (.request 0x1000000000100002) = .ok (.read 0x10000000 0x10) := by decide
theorem test_decode_poll : decode testCfg (.request 0x0000000000000003) = .ok .poll := by decide
theorem test_decode_queryEmpty : decode testCfg (.request 0x4) = .ok .queryEmpty := by decide
/-- V-H7. -/
theorem test_decode_reserved5 : decode testCfg (.request 0x5) = .ok (.reserved5 0) := by decide
theorem test_decode_reserved6 : decode testCfg (.request 0x6) = .ok (.reserved6 0) := by decide
theorem test_decode_reserved7 : decode testCfg (.request 0x7) = .ok (.reserved7 0) := by decide
theorem test_decode_reserved8 : decode testCfg (.request 0x18) = .ok (.reserved8 1) := by decide
theorem test_decode_reserved9 : decode testCfg (.request 0x9) = .ok (.reserved9 0) := by decide
theorem test_decode_reservedA : decode testCfg (.request 0xA) = .ok (.reservedA 0) := by decide
theorem test_decode_reservedB : decode testCfg (.request 0xB) = .ok (.reservedB 0) := by decide
theorem test_decode_reservedC : decode testCfg (.request 0xC) = .ok (.reservedC 0) := by decide
theorem test_decode_reservedD : decode testCfg (.request 0xD) = .ok (.reservedD 0) := by decide
theorem test_decode_reservedE : decode testCfg (.request 0xE) = .ok (.reservedE 0) := by decide
/-- V-H8. -/
theorem test_decode_reservedF : decode testCfg (.request 0xFF) = .ok (.reservedF 0xF) := by decide
/-- V-E8. -/
theorem test_decode_writeFrame : decode testCfg (.frame [0xF0, 1, 2, 3, 4, 5, 6, 0x12, 0x12, 0x34, 0x56,
    0x78, 0x00, 0x00, 0x9A, 0x52, 0xF7]) = .ok (.writeFrame 0x12345678 0x9A 3) := by decide
/-- V-E4. -/
theorem test_decode_readFrame : decode testCfg (.frame [0xF0, 1, 2, 3, 4, 5, 6, 0x11, 0x10, 0x00, 0x00,
    0x00, 0x00, 0x00, 0x00, 0x10, 0x60, 0xF7]) = .ok (.readFrame 0x10000000 0x10) := by decide
/-- S8. -/
theorem test_decode_handshake : decode testCfg (.frame [0xF0, 0x7E, 0x00, 0x06, 0x02, 0x41, 0x3B, 0x03,
    0x00, 0x00, 0x00, 0x00, 0x00, 0x00, 0xF7]) = .ok .handshake := by decide
/-- S9, V-E2. -/
theorem test_decode_editFrame : decode testCfg (.frame [0xF0, 1, 2, 3, 4, 5, 6, 0x12, 0x7F, 0x00, 0x00,
    0x01, 0x01, 0x7F, 0xF7]) = .ok .editFrame := by decide
theorem test_decode_cin4 : decode testCfg (.group 0x14 1 2 3) = .ok (.cin4 1 1 2 3) := by decide
theorem test_decode_cin5 : decode testCfg (.group 0x05 1 2 3) = .ok (.cin5 0 1 2 3) := by decide
theorem test_decode_cin6 : decode testCfg (.group 0x06 1 2 3) = .ok (.cin6 0 1 2 3) := by decide
theorem test_decode_cin7 : decode testCfg (.group 0xF7 1 2 3) = .ok (.cin7 15 1 2 3) := by decide
theorem test_decode_cin0 : decode testCfg (.group 0x00 0 0 0) = .ok (.cin0Terminate 0 0 0 0) := by decide
theorem test_decode_cin1 : decode testCfg (.group 0x01 0 0 0) = .ok (.cin1Terminate 0 0 0 0) := by decide
theorem test_decode_cin2 : decode testCfg (.group 0x02 0 0 0) = .ok (.cin2Terminate 0 0 0 0) := by decide
theorem test_decode_cin3 : decode testCfg (.group 0x03 0 0 0) = .ok (.cin3Terminate 0 0 0 0) := by decide
theorem test_decode_cin8 : decode testCfg (.group 0x08 0 0 0) = .ok (.cin8Terminate 0 0 0 0) := by decide
theorem test_decode_cin9 :
    decode testCfg (.group 0x09 0x90 0x40 0x7F) = .ok (.cin9Terminate 0 0x90 0x40 0x7F) := by decide
theorem test_decode_cinA : decode testCfg (.group 0x0A 0 0 0) = .ok (.cinATerminate 0 0 0 0) := by decide
theorem test_decode_cinB : decode testCfg (.group 0x0B 0 0 0) = .ok (.cinBTerminate 0 0 0 0) := by decide
theorem test_decode_cinC : decode testCfg (.group 0x0C 0 0 0) = .ok (.cinCTerminate 0 0 0 0) := by decide
theorem test_decode_cinD : decode testCfg (.group 0x0D 0 0 0) = .ok (.cinDTerminate 0 0 0 0) := by decide
theorem test_decode_cinE : decode testCfg (.group 0x0E 0 0 0) = .ok (.cinETerminate 0 0 0 0) := by decide
theorem test_decode_cinF : decode testCfg (.group 0x0F 0 0 0) = .ok (.cinFTerminate 0 0 0 0) := by decide

/-! ### Encodings refused -/

theorem test_H9 : decode testCfg (.request 0x0000000000000013) = .error .reservedBits := by decide
theorem test_H10 : decode testCfg (.request 0x0000000100000003) = .error .reservedBits := by decide
theorem test_H11 : decode testCfg (.request 0x1000000000100402) = .error .reservedBits := by decide
theorem test_H14 : decode testCfg (.request 0x2001200001010001) = .error .reservedBits := by decide
theorem test_H15 : decode testCfg (.request 0x0000000000010000) = .error .reservedBits := by decide
/-- A wrong checksum (V-E1 with 0x3F) is no frame the block produces (R77). -/
theorem test_frame_checksum_rejected : decode testCfg (.frame [0xF0, 1, 2, 3, 4, 5, 6, 0x12, 0x20, 0x01,
    0x20, 0x00, 0x01, 0x3F, 0xF7]) = .error .notAFrame := by decide
/-- A wrong identifier byte is no frame the block produces (R77). -/
theorem test_frame_identifier_rejected : decode testCfg (.frame [0xF0, 9, 2, 3, 4, 5, 6, 0x12, 0x20, 0x01,
    0x20, 0x00, 0x01, 0x3E, 0xF7]) = .error .notAFrame := by decide

/-! ### Well-formedness refuses an ill-formed term for each check -/

/-- V-H12. -/
theorem test_illformed_write_zero : WellFormed testCfg (.write 0x20012000 0x01 0) = false := by decide
/-- V-H13. -/
theorem test_illformed_write_long : WellFormed testCfg (.write 0x20012000 0x01 5) = false := by decide
theorem test_illformed_frame_zero : WellFormed testCfg (.writeFrame 0 0 0) = false := by decide
theorem test_illformed_frame_long : WellFormed testCfg (.writeFrame 0 0 5) = false := by decide
/-- The edit-mode frame is read as EDIT_FRAME. -/
theorem test_illformed_frame_edit : WellFormed testCfg (.writeFrame 0x7F000001 1 1) = false := by decide
theorem test_wellformed_write : WellFormed testCfg (.write 0x20012000 0x01 4) = true := by decide

/-! ### The encoder (V-E) -/

/-- The frame of a command, under the test configuration, from position 7 on. -/
def frameTail (c : Command) : List Byte := (encodeCommand testCfg c).drop 7

theorem test_E1 : encodeCommand testCfg ⟨0x20012000, 0x01, 1, .write⟩ =
    [0xF0, 1, 2, 3, 4, 5, 6, 0x12, 0x20, 0x01, 0x20, 0x00, 0x01, 0x3E, 0xF7] := by decide
theorem test_E4 : frameTail ⟨0x10000000, 0x10, 4, .read⟩ =
    [0x11, 0x10, 0, 0, 0, 0, 0, 0, 0x10, 0x60, 0xF7] := by decide
theorem test_E5 : frameTail ⟨0xFFFFFFFF, 0xFF, 1, .write⟩ =
    [0x12, 0xFF, 0xFF, 0xFF, 0xFF, 0xFF, 0x05, 0xF7] := by decide
theorem test_E8 : frameTail ⟨0x12345678, 0x9A, 3, .write⟩ =
    [0x12, 0x12, 0x34, 0x56, 0x78, 0, 0, 0x9A, 0x52, 0xF7] := by decide
theorem test_E9 : frameTail ⟨0x00000080, 0x00, 1, .write⟩ =
    [0x12, 0, 0, 0, 0x80, 0, 0x00, 0xF7] := by decide

/-! ### The decoder (V-D) -/

/-- V-D2's packet. -/
def packetD2 : Packet := [0x04, 0xF0, 1, 2, 0x04, 3, 4, 5, 0x04, 6, 0x12, 0x20, 0x04, 0x01, 0x20, 0x00,
  0x07, 0x01, 0x3E, 0xF7]

/-- V-D8's packet. -/
def packetD8 : Packet := [0x09, 0x90, 0x40, 0x7F]

theorem test_D1 : reassemble [0x06, 0xB1, 0xB2, 0x00, 0x05, 0xF7, 0x00, 0x00] =
    ⟨[0xB1, 0xB2, 0xF7], some .endSeen⟩ := by decide
theorem test_D2 : decodePacket testCfg packetD2 = some (0x20012000, 0x01) := by decide
theorem test_D5 : decodePacket testCfg [0x04, 0xF0, 0x7E, 0x00, 0x04, 0x06, 0x02, 0x41, 0x04, 0x3B, 0x03,
    0x00, 0x04, 0x00, 0x00, 0x00, 0x07, 0x00, 0x00, 0xF7] = some (0, 0) := by decide
theorem test_D7 : reassemble ([0, 0, 0, 0] ++ packetD2) = ⟨[], some .stoppedByCin⟩ := by decide
theorem test_D8 : reassemble packetD8 = ⟨[], some .stoppedByCin⟩ := by decide
theorem test_D10 : (reassemble (packetD2.take 16)).term = some .exhausted := by decide
theorem test_D11 : decodePacket testCfg (packetD2 ++ [0x04, 0x11, 0x22, 0x33, 0, 0, 0, 0]) =
    some (0x20012000, 0x01) := by decide
theorem test_D12 : decodePacket testCfg (packetD2.take 16 ++ [0x07, 0x01, 0x3E]) = none := by decide
theorem test_D13 : reassemble [0x04, 0x01, 0x02, 0xF7, 0x04, 0x05, 0x06, 0x07] =
    ⟨[0x01, 0x02, 0xF7], some .endSeen⟩ := by decide
theorem test_D14 : decodePacket testCfg (packetD2.take 16 ++ [0x06, 0x3F, 0xF7, 0x00]) = none := by decide
theorem test_D15 : decodePacket testCfg ([0x05, 0xF0, 0, 0, 0x05, 1, 0, 0, 0x05, 2, 0, 0] ++
    packetD2.drop 4) = some (0x20012000, 0x01) := by decide
/-- V-D17. -/
theorem test_D17 : decodePacket testCfg (packetD2.take 18 ++ [0x3F, 0xF7]) =
    some (0x20012000, 0x01) := by decide
/-- V-D18, V-D19. -/
theorem test_D18 :
    decodePacket { testCfg with validateRxChecksum := true } (packetD2.take 18 ++ [0x3F, 0xF7]) = none ∧
    decodePacket { testCfg with validateRxChecksum := true } packetD2 = some (0x20012000, 0x01) := by decide
/-- V-RT7. -/
theorem test_RT7 : decodePacket testCfg [0x04, 0xF0, 1, 2, 0x04, 3, 4, 5, 0x04, 6, 0x12, 0x10, 0x04, 0, 0, 0,
    0x04, 0, 0, 0, 0x07, 0xF7, 0x79, 0xF7] = some (0x10000000, 0x00) := by decide

/-! ### Single operations on small states -/

/-- A state of the controller, its registers and queue as the vectors list them. -/
def at' (ctrl hs : BitVec 2) (next : Nat) (q : List Command) (last : Option Nat) : State :=
  { State.resetWith testCfg with
    ctrlState := ctrl, hsStep := hs, nextTime := next, queue := q, lastNow := last }

/-- The inputs of one POLL, as the vectors list them. -/
def polled (now : Nat) (connected : Bool) (rx : Option Packet) (ok : Bool) (s : State) : State :=
  { s with inputs := ⟨now, connected, rx.isSome, ok⟩, inbox := rx.toList }

/-- What is looked at after one operation. -/
def seen (o : Out) : Option (Answer × List Command × List Event × Option Reason) :=
  match o with
  | .next t => some (t.answer, t.queue, t.trace, t.refused)
  | _ => none

/-- The controller's registers after one operation. -/
def regs (o : Out) : Option (BitVec 2 × BitVec 2 × Nat × Option Nat) :=
  match o with
  | .next t => some (t.ctrlState, t.hsStep, t.nextTime, t.lastNow)
  | _ => none

/-- The commands wk of V-Q. -/
def w1 : Command := ⟨0x10000001, 0x01, 1, .write⟩
def w2 : Command := ⟨0x10000002, 0x02, 1, .write⟩
def w3 : Command := ⟨0x10000003, 0x03, 1, .write⟩
def r1 : Command := ⟨0x10000000, 0x10, 4, .read⟩

/-- V-Q6. -/
theorem test_nop : seen (exec .nop (at' 0 1 0 [w1] none)) = some (.response 0x00, [w1], [], none) := by
  decide
/-- V-Q7. -/
theorem test_nop_empty : seen (exec .nop (at' 0 1 0 [] none)) = some (.response 0x10, [], [], none) := by
  decide
/-- V-Q2. -/
theorem test_queryEmpty : seen (exec .queryEmpty (at' 0 1 0 [] none)) =
    some (.response 0x10, [], [], none) := by decide
/-- R138's example. -/
theorem test_write : seen (exec (.write 0x20012000 0x01 1) (at' 0 1 0 [] none)) =
    some (.response 0, [⟨0x20012000, 0x01, 1, .write⟩], [], none) := by decide
/-- V-Q5: a Read is evicted like a Write. -/
theorem test_write_evicts :
    seen (exec (.write 0x10000003 0x03 1)
      { at' 0 1 0 [r1, w2] none with cfg := { testCfg with queueN := 2 } }) =
    some (.response 0x20, [w2, w3], [.evict r1], none) := by decide
/-- R139's example. -/
theorem test_read : seen (exec (.read 0x10000000 0x10) (at' 0 1 0 [] none)) =
    some (.response 0, [r1], [], none) := by decide
/-- V-H12 at the meaning: BAD_LENGTH. -/
theorem test_write_bad_length : seen (exec (.write 0x20012000 0x01 0) (at' 0 1 0 [w1] none)) =
    some (.refused .badLength, [w1], [], some .badLength) := by decide
/-- P4 step 1. -/
theorem test_reserved7 : seen (exec (.reserved7 0) (at' 2 3 78 [] (some 78))) =
    some (.refused .badOpcode, [], [], some .badOpcode) := by decide
/-- P4 step 2: the first reason is kept. -/
theorem test_first_reason_kept :
    seen (exec .poll (polled 77 true none true
      { at' 2 3 78 [] (some 78) with refused := some .badOpcode })) =
    some (.refused .nonmonotonicTime, [], [], some .badOpcode) := by decide

/-- V-P1. -/
theorem test_P1 : regs (exec .poll (polled 5 false none true (at' 0 1 0 [] none))) =
    some (0, 1, 0, some 5) := by decide
/-- V-P2. -/
theorem test_P2 : regs (exec .poll (polled 7 true none true (at' 0 1 0 [] (some 5)))) =
      some (1, 1, 11, some 7) ∧
    seen (exec .poll (polled 7 true none true (at' 0 1 0 [] (some 5)))) =
      some (.response 0x12, [], [.state 1, .tx handshakeFrame], none) := by decide
/-- V-P3. -/
theorem test_P3 : regs (exec .poll (polled 10 true none true (at' 1 1 11 [] (some 7)))) =
    some (1, 1, 11, some 10) := by decide
/-- V-P4. -/
theorem test_P4 : seen (exec .poll (polled 19 false none true (at' 1 2 20 [w1] (some 18)))) =
    some (.response 0x02, [w1], [.state 0], none) := by decide
/-- V-P5. -/
theorem test_P5 : seen (exec .poll (polled 105 true none true (at' 2 3 110 [w1, w2] (some 100)))) =
    some (.response 0x01, [w1, w2], [], none) := by decide
/-- V-P5b. -/
theorem test_P5b : regs (exec .poll (polled 115 true none true
      { at' 2 3 110 [w1, w2] (some 105) with cfg := { testCfg with writeInterval := 10 } })) =
    some (2, 3, 125, some 115) := by decide
/-- V-P6. -/
theorem test_P6 : seen (exec .poll (polled 115 true (some packetD2) true (at' 2 3 125 [w1] (some 110)))) =
    some (.response 0x2001200000000104, [w1], [.rx 0x20012000 0x01], none) := by decide
/-- V-P7. -/
theorem test_P7 : seen (exec .poll (polled 1 true (some packetD8) true (at' 2 3 0 [w1] (some 0)))) =
    some (.response 0x11, [], [.tx (encodeCommand testCfg w1)], none) := by decide
/-- V-P8. -/
theorem test_P8 : seen (exec .poll (polled 1 true (some (List.replicate 68 0)) true
    (at' 2 3 0 [w1] (some 0)))) = some (.refused .rxTooLong, [w1], [], some .rxTooLong) := by decide
/-- V-P9. -/
theorem test_P9 : seen (exec .poll (polled 49 true none true (at' 2 3 0 [] (some 50)))) =
    some (.refused .nonmonotonicTime, [], [], some .nonmonotonicTime) := by decide
/-- V-P10. -/
theorem test_P10 : seen (exec .poll (polled (2 ^ 32 - 60) true none true (at' 2 3 0 [] none))) =
    some (.refused .timeOverflow, [], [], some .timeOverflow) := by decide
/-- V-P11. -/
theorem test_P11 : seen (exec .poll (polled (2 ^ 32 - 61) true none true (at' 2 3 0 [] none))) =
    some (.response 0x11, [], [], none) := by decide
/-- V-P13. -/
theorem test_P13 : seen (exec .poll (polled 50 true none false (at' 2 3 50 [w1] (some 40)))) =
    some (.response 0x19, [], [.tx (encodeCommand testCfg w1)], none) := by decide
/-- V-P14: the packet is not read. -/
theorem test_P14 : seen (exec .poll (polled 68 true (some packetD2) true (at' 1 3 68 [] (some 67)))) =
    some (.response 0x13, [], [.state 2], none) := by decide
/-- P1 step 4 and step 5. -/
theorem test_handshake_steps :
    regs (exec .poll (polled 4 true none true (at' 1 1 4 [] (some 2)))) = some (1, 2, 8, some 4) ∧
    regs (exec .poll (polled 8 true none true (at' 1 2 8 [] (some 4)))) = some (1, 3, 68, some 8) := by
  decide

/-- The reassembly buffer after one operation. -/
def reasmOf (o : Out) : Option Reassembly :=
  match o with
  | .next t => some t.reasm
  | _ => none

/-- R83's rows. -/
theorem test_groups : reasmOf (exec (.cin4 0 1 2 3) State.reset) = some ⟨[1, 2, 3], none⟩ ∧
    reasmOf (exec (.cin5 0 1 2 3) State.reset) = some ⟨[1], none⟩ ∧
    reasmOf (exec (.cin6 0 1 0xF7 3) State.reset) = some ⟨[1, 0xF7], some .endSeen⟩ ∧
    reasmOf (exec (.cin7 0 1 2 3) State.reset) = some ⟨[1, 2, 3], none⟩ ∧
    reasmOf (exec (.cin0Terminate 0 0 0 0) State.reset) = some ⟨[], some .stoppedByCin⟩ := by decide

/-- R81: the edit frame is composed. -/
theorem test_editFrame : (match exec .editFrame (at' 0 1 0 [] none) with
    | .next t => t.frameBuf
    | _ => []) = [0xF0, 1, 2, 3, 4, 5, 6, 0x12, 0x7F, 0x00, 0x00, 0x01, 0x01, 0x7F, 0xF7] := by decide

/-! ### Steps -/

/-- Whether an outcome is a next state with a property. -/
def holdsNext (o : Out) (p : State → Bool) : Bool :=
  match o with
  | .next t => p t
  | _ => false

/-- The table's own numbering: READ's row has 32 bits. -/
theorem test_table_word : decodeTableWord 32 0x2 = some (.read 0 0) ∧
    decodeTableWord 8 0x4 = some (.cin4 0 0 0 0) ∧
    decodeTableWord 64 0x5 = some (.reserved5 0) := by decide

/-- A placed word is the next thing run. -/
theorem test_step_placed : step (State.reset.withFetchWord 64 0x3) = exec .poll State.reset := by rfl

/-- R220, R221: a reset pulse keeps the trace and the mark. -/
theorem test_reset_pulse :
    seen (step { at' 2 3 9 [w1] (some 4) with
      stream := [.reset], refused := some .badLength, trace := [.state 2] }) =
    some (.none, [], [.state 2], some .badLength) := by decide

/-- A frame operation answers its frame (S8), and the buffers are released (R32). -/
theorem test_step_frame : holdsNext (step { at' 0 1 0 [w1] none with
    stream := [.operation (.frame handshakeFrame) Inputs.idle []] })
    (fun t => t.answer == .composed handshakeFrame && t.frameBuf == [] && t.queue == [w1]) = true := by decide

/-- A group operation is Reassemble of one group: with no END it is EXHAUSTED (R114). -/
theorem test_step_group : holdsNext (step { at' 0 1 0 [w1] none with
    stream := [.operation (.group 0x06 1 2 3) Inputs.idle []] })
    (fun t => t.answer == .reassembled ⟨[1, 2], some .exhausted⟩ && t.reasm == Reassembly.start) = true := by
  decide

/-- V-H14 through a step: RESERVED_BITS comes before BAD_LENGTH. -/
theorem test_step_reserved_bits :
    seen (step { at' 0 1 0 [w1] none with
      stream := [.operation (.request 0x2001200001010001) Inputs.idle []] }) =
    some (.refused .reservedBits, [w1], [], some .reservedBits) := by decide

/-! ### Textual syntax (R88, R89) -/

theorem test_asm_nop : assembleLine "nop ; idle".toList = some .nop := by decide
theorem test_asm_write :
    assembleLine "write 0x20012000, 0x01".toList = some (.write 0x20012000 1 1) := by decide
theorem test_asm_write_len :
    assembleLine "  write 0x60000010, 64, 2".toList = some (.write 0x60000010 0x40 2) := by decide
theorem test_asm_read :
    assembleLine "read  0x10000000, 0x10 ;x".toList = some (.read 0x10000000 0x10) := by decide
theorem test_asm_refuses : assembleLine "write 0x20012000, 256".toList = none ∧
    assembleLine "poll 1".toList = none := by decide

/-! ### Witnesses: for each statement with hypotheses, a state and operands that meet them together -/

theorem exists_of_holdsNext {o : Out} {p : State → Bool} (h : holdsNext o p = true) :
    ∃ t, o = .next t ∧ p t = true := by
  cases o with
  | next t => exact ⟨t, rfl, h⟩
  | fault r => cases h
  | refused r => cases h

/-- A state about to run a request. -/
def asked (w : RequestWord) (inputs : Inputs) (arrivals : List Packet) (s : State) : State :=
  { s with stream := [.operation (.request w) inputs arrivals] }

/-- READY with two commands, POLL next. -/
def busy : State := asked 0x3 ⟨115, true, false, true⟩ [] (at' 2 3 110 [w1, r1] (some 105))

theorem legal_testCfg : testCfg.Legal := by constructor <;> decide

/-- A legal configuration at the smallest value of each parameter, and one at the largest. -/
def smallCfg : Config := ⟨1, 4, 0, 0, 0, 0, 0, 0, ⟨0, 0, 0, 0, 0, 0⟩, 17, 4, false⟩
def largeCfg : Config := ⟨255, 255, 65535, 65535, 65535, 65535, 65535, 65535,
  ⟨0x7F, 0x7F, 0x7F, 0x7F, 0x7F, 0x7F⟩, 64, 1024, true⟩

theorem inv_of {s : State} (h1 : s.cfg.Legal) (h2 : s.queue.length ≤ s.cfg.queueN ∧ s.ctrlState ≠ 0b11 ∧
    (s.ctrlState = ctrlHandshaking → s.hsStep = 1 ∨ s.hsStep = 2 ∨ s.hsStep = 3) ∧
    s.nextTime ≤ s.cfg.maxTime)
    (h3 : ∀ c ∈ s.queue, LegalLen s.cfg c.len ∧ (c.op = .read → c.len = readLen)) : StateInv s :=
  ⟨h1, h2.1, h2.2.1, h2.2.2.1, h3, h2.2.2.2⟩

theorem inv_busy : StateInv busy := inv_of legal_testCfg (by decide) (by decide)

/-- `PollAt` from facts that decide. -/
theorem pollAt_of {ctrl : BitVec 2} {s : State} (a : Nat) (h : s.lastNow = some a ∧ a ≤ s.inputs.now ∧
    s.inputs.now + s.cfg.maxWait ≤ s.cfg.maxTime ∧ s.inputs.connected = true ∧ s.ctrlState = ctrl) :
    PollAt ctrl s :=
  ⟨⟨fun t ht => by rw [h.1] at ht; cases ht; exact h.2.1, h.2.2.1⟩, h.2.2.2⟩

theorem witness_DecodeEncodeRoundTrip :
    WellFormed testCfg (.write 0xFFFFFFFF 0xFF 4) = true ∧ WellFormed testCfg .editFrame = true ∧
    WellFormed testCfg (.writeFrame 0x7F000001 1 2) = true := by decide

theorem witness_DecodedEncodingIsUnique :
    decode testCfg (.request 0x10000000001000F7) = .ok (.reserved7 0x10000000001000F) := by decide

theorem witness_RequestOperandFields :
    (0xFFFFFFFF00FFFF01 : RequestWord).toNat % 256 = 1 ∧
    (0xFFFFFFFF00FFFF01 : RequestWord).toNat / 2 ^ 24 % 256 = 0 ∧
    (0xFFFFFFFF00FF0002 : RequestWord).toNat % 65536 = 2 ∧
    (0xFFFFFFFF00FF0002 : RequestWord).toNat / 2 ^ 24 % 256 = 0 := by decide

/-- V-H7 to V-H15 and a legal WRITE. -/
theorem witness_RequestChecksInOrder :
    (asked 0x5 Inputs.idle [] State.reset).stream = [.operation (.request 0x5) Inputs.idle []] ∧
    requestVerdict testCfg 0x5 = some .badOpcode ∧ requestVerdict testCfg 0xFF = some .badOpcode ∧
    requestVerdict testCfg 0x13 = some .reservedBits ∧
    requestVerdict testCfg 0x100000003 = some .reservedBits ∧
    requestVerdict testCfg 0x1000000000100402 = some .reservedBits ∧
    requestVerdict testCfg 0x2001200000010001 = some .badLength ∧
    requestVerdict testCfg 0x2001200000010501 = some .badLength ∧
    requestVerdict testCfg 0x2001200001010001 = some .reservedBits ∧
    requestVerdict testCfg 0x10000 = some .reservedBits ∧
    requestVerdict testCfg 0x2001200000010401 = none ∧ requestVerdict testCfg 0x4 = none := by decide

theorem witness_StepRunsDecodedInstruction :
    busy.stream = [.operation (.request 0x3) ⟨115, true, false, true⟩ []] ∧
    decode busy.cfg (.request 0x3) = .ok .poll ∧
    decode busy.cfg (.frame handshakeFrame) = .ok .handshake ∧
    decode busy.cfg (.group 0x05 0xF7 0 0) = .ok (.cin5 0 0xF7 0 0) := by decide

theorem witness_IdleStepChangesNothing : State.reset.stream = [] ∧ (at' 2 3 9 [w1] none).stream = [] := by
  decide

theorem witness_ResetPulseWritesResetValues :
    ({ at' 2 3 9 [w1] (some 4) with stream := [.reset] } : State).stream = .reset :: [] := by decide

theorem witness_ResetStateMeetsInvariant : smallCfg.Legal ∧ largeCfg.Legal :=
  ⟨by constructor <;> decide, by constructor <;> decide⟩

/-- The step's premise, for a POLL that sends. -/
theorem witness_StepKeepsInvariant : StateInv busy ∧ ∃ t, step busy = .next t ∧ (t.queue == [r1]) = true :=
  ⟨inv_busy, exists_of_holdsNext (by decide)⟩

theorem witness_SafeStatesNeverStop : StateInv busy ∧ StateInv State.reset :=
  ⟨inv_busy, inv_of (by constructor <;> decide) (by decide) (by decide)⟩

theorem witness_ConfigurationIsStatic : ∃ t, step busy = .next t ∧ (t.cfg == busy.cfg) = true :=
  exists_of_holdsNext (by decide)

theorem witness_RefusalMarkIsSticky :
    ∃ t, step { busy with refused := some .badLength } = .next t ∧ (t.refused == some .badLength) = true :=
  exists_of_holdsNext (by decide)

/-- P4 step 1. -/
theorem witness_RefusalKeepsHardwareState :
    (asked 0x7 Inputs.idle [] (at' 2 3 78 [] (some 78))).stream ≠ [] ∧
    ∃ t, step (asked 0x7 Inputs.idle [] (at' 2 3 78 [] (some 78))) = .next t ∧
      (t.answer == .refused .badOpcode) = true :=
  ⟨by decide, exists_of_holdsNext (by decide)⟩

theorem witness_TraceOnlyGrows :
    ∃ t, step busy = .next t ∧ (t.trace == [.tx (encodeCommand testCfg w1)]) = true :=
  exists_of_holdsNext (by decide)

theorem witness_LastNowNeverGoesBack : busy.stream.head? ≠ some .reset ∧ busy.lastNow = some 105 ∧
    ∃ t, step busy = .next t ∧ (t.lastNow == some 115) = true :=
  ⟨by decide, by decide, exists_of_holdsNext (by decide)⟩

theorem witness_QEmptyBitTellsQueue :
    busy.stream ≠ [] ∧ ∃ t, step busy = .next t ∧ (t.answer == .response 0x1) = true :=
  ⟨by decide, exists_of_holdsNext (by decide)⟩

theorem witness_QueueChangesOnlyByEnqueueEvictSend : busy.stream.head? ≠ some .reset ∧
    ∃ t, step busy = .next t ∧ (t.queue == [r1]) = true :=
  ⟨by decide, exists_of_holdsNext (by decide)⟩

theorem witness_OnlyPollTouchesController : Instr.read 0x10000000 0x10 ≠ .poll ∧
    ∃ t, exec (.read 0x10000000 0x10) busy = .next t ∧ (t.queue == [w1, r1, r1]) = true :=
  ⟨by decide, exists_of_holdsNext (by decide)⟩

/-- Both clauses: a POLL into HANDSHAKING, and a POLL and a reset pulse out of READY. -/
theorem witness_NoReadyToHandshaking :
    (∃ t, step (asked 0x3 ⟨7, true, false, true⟩ [] (at' 0 1 0 [] (some 5))) = .next t ∧
      (t.ctrlState == ctrlHandshaking) = true) ∧
    busy.ctrlState = ctrlReady ∧
    (∃ t, step (asked 0x3 ⟨115, false, false, true⟩ [] busy) = .next t ∧
      (t.ctrlState == ctrlDisconnected) = true) ∧
    ∃ t, step { busy with stream := [.reset] } = .next t ∧ (t.ctrlState == ctrlDisconnected) = true :=
  ⟨exists_of_holdsNext (by decide), by decide, exists_of_holdsNext (by decide),
    exists_of_holdsNext (by decide)⟩

/-- Lengths 1 and MAX_PAYLOAD, below capacity and at it. -/
theorem witness_WriteAndReadEnqueue : LegalLen testCfg 1 ∧ LegalLen testCfg 4 ∧
    busy.queue.length ≠ busy.cfg.queueN ∧
    ({ busy with cfg := { testCfg with queueN := 2 } } : State).queue.length = 2 := by decide

theorem witness_WriteBadLengthRefused : (0 : BitVec 8).toNat = 0 ∧ testCfg.maxPayload < (5 : BitVec 8).toNat :=
  by decide

theorem witness_QueueOperationsIgnoreTransport :
    ∃ t, exec (.write 0x10000003 0x03 1) busy = .next t ∧ (t.queue == [w1, r1, w3]) = true :=
  exists_of_holdsNext (by decide)

theorem witness_QueueIsFifo : State.reset.queue = [] ∧ 3 ≤ State.reset.cfg.queueN := by decide

/-- Capacity 1 and capacity 2. -/
theorem witness_OverflowEvictsTheFirst :
    (State.resetWith smallCfg).queue = [] ∧ ([] : List Command).length + 1 = smallCfg.queueN ∧
    [w2].length + 1 = ({ smallCfg with queueN := 2 } : Config).queueN := by decide

/-- V-P9. -/
theorem witness_PollRefusesEarlierTime : (polled 49 true none true (at' 2 3 0 [] (some 50))).lastNow = some 50 ∧
    (polled 49 true none true (at' 2 3 0 [] (some 50))).inputs.now < 50 := by decide

/-- V-P10's boundary, and a POLL that writes `next_time`. -/
theorem witness_TimerLoadsNeverWrap :
    ((∀ t, (polled (2 ^ 32 - 60) true none true (at' 2 3 0 [] none)).lastNow = some t → t ≤ 2 ^ 32 - 60) ∧
      testCfg.maxTime < 2 ^ 32 - 60 + testCfg.maxWait) ∧
    ∃ t, exec .poll (polled 7 true none true (at' 0 1 0 [] (some 5))) = .next t ∧ (t.nextTime == 11) = true :=
  ⟨⟨fun _ h => (by cases h), by decide⟩, exists_of_holdsNext (by decide)⟩

/-- In DISCONNECTED and in READY, `Now` at the last accepted value (V-P11). -/
theorem witness_PollDisconnectedGoesDown :
    Timely (polled (2 ^ 32 - 61) false none true (at' 0 1 0 [] none)) ∧
    Timely (polled (2 ^ 32 - 61) false none true (at' 2 3 0 [] none)) :=
  ⟨⟨fun _ h => (by cases h), by decide⟩, ⟨fun _ h => (by cases h), by decide⟩⟩

theorem witness_PollConnectStartsHandshake :
    PollAt ctrlDisconnected (polled 7 true none true (at' 0 1 0 [] (some 7))) := pollAt_of 7 (by decide)

theorem witness_PollHandshakeWaits :
    PollAt ctrlHandshaking (polled 10 true none true (at' 1 1 11 [] (some 7))) ∧ 10 < 11 :=
  ⟨pollAt_of 7 (by decide), by decide⟩

theorem witness_PollSendsSecondHandshake :
    PollAt ctrlHandshaking (polled 11 true none true (at' 1 1 11 [] (some 7))) ∧
    (at' 1 1 11 [] (some 7)).hsStep = 1 ∧ (at' 1 1 11 [] (some 7)).nextTime ≤ 11 :=
  ⟨pollAt_of 7 (by decide), by decide⟩

theorem witness_PollSendsEditFrame :
    PollAt ctrlHandshaking (polled 20 true none true (at' 1 2 20 [] (some 18))) ∧
    (at' 1 2 20 [] (some 18)).hsStep = 2 ∧ (at' 1 2 20 [] (some 18)).nextTime ≤ 20 :=
  ⟨pollAt_of 18 (by decide), by decide⟩

theorem witness_PollBecomesReady :
    PollAt ctrlHandshaking (polled 68 true none true (at' 1 3 68 [] (some 67))) ∧
    (at' 1 3 68 [] (some 67)).hsStep = 3 ∧ (at' 1 3 68 [] (some 67)).nextTime ≤ 68 :=
  ⟨pollAt_of 67 (by decide), by decide⟩

/-- V-P6: the timer has not expired, and a command waits. -/
theorem witness_PollReturnsDecodedValue :
    PollAt ctrlReady (polled 115 true (some packetD2) true (at' 2 3 125 [w1] (some 110))) ∧
    Receives (polled 115 true (some packetD2) true (at' 2 3 125 [w1] (some 110))) packetD2 [] ∧
    packetD2.length ≤ testCfg.rxMaxBytes ∧ decodePacket testCfg packetD2 = some (0x20012000, 0x01) :=
  ⟨pollAt_of 110 (by decide), ⟨by decide, by decide⟩, by decide, by decide⟩

theorem nothing_without_packet (now : Nat) (s : State) : NothingDecoded (polled now true none true s) [] :=
  .inl ⟨.inr rfl, rfl⟩

/-- Without a packet at the timer's boundary, and with one that does not decode (V-P7). -/
theorem witness_PollDispatchesOldest :
    (PollAt ctrlReady (polled 50 true none true (at' 2 3 50 [w1] (some 40))) ∧
      NothingDecoded (polled 50 true none true (at' 2 3 50 [w1] (some 40))) [] ∧
      (at' 2 3 50 [w1] (some 40)).nextTime ≤ 50 ∧ (at' 2 3 50 [w1] (some 40)).queue = [w1] ∧
      LegalLen testCfg w1.len) ∧
    NothingDecoded (polled 1 true (some packetD8) true (at' 2 3 0 [r1] (some 0))) [] :=
  ⟨⟨pollAt_of 40 (by decide), nothing_without_packet _ _, by decide, by decide, by decide⟩,
    .inr ⟨packetD8, ⟨by decide, by decide⟩, by decide, by decide⟩⟩

/-- Before the timer with a command (V-P5), and after it with none. -/
theorem witness_PollIdles :
    (PollAt ctrlReady (polled 109 true none true (at' 2 3 110 [w1] (some 100))) ∧
      NothingDecoded (polled 109 true none true (at' 2 3 110 [w1] (some 100))) [] ∧
      109 < (at' 2 3 110 [w1] (some 100)).nextTime) ∧
    PollAt ctrlReady (polled 110 true none true (at' 2 3 110 [] (some 100))) ∧
    (at' 2 3 110 [] (some 100)).queue = [] :=
  ⟨⟨pollAt_of 100 (by decide), nothing_without_packet _ _, by decide⟩, pollAt_of 100 (by decide), by decide⟩

/-- One byte over RX_MAX_BYTES. -/
theorem witness_PollRefusesLongPacket :
    PollAt ctrlReady (polled 1 true (some (List.replicate 65 0)) true (at' 2 3 0 [] (some 0))) ∧
    Receives (polled 1 true (some (List.replicate 65 0)) true (at' 2 3 0 [] (some 0)))
      (List.replicate 65 0) [] ∧
    testCfg.rxMaxBytes < (List.replicate 65 (0 : Byte)).length :=
  ⟨pollAt_of 0 (by decide), ⟨by decide, by decide⟩, by decide⟩

/-- The three clauses. -/
theorem witness_PollFaultsWithoutCase :
    PollAt 0b11 (polled 1 true none true (at' 3 1 0 [] (some 0))) ∧
    (PollAt ctrlHandshaking (polled 1 true none true (at' 1 0 1 [] (some 0))) ∧
      (at' 1 0 1 [] (some 0)).hsStep = 0) ∧
    PollAt ctrlReady (polled 1 true none true (at' 2 3 1 [⟨0, 0, 5, .write⟩] (some 0))) ∧
    NothingDecoded (polled 1 true none true (at' 2 3 1 [⟨0, 0, 5, .write⟩] (some 0))) [] ∧
    ¬LegalLen testCfg 5 :=
  ⟨pollAt_of 0 (by decide), ⟨pollAt_of 0 (by decide), by decide⟩, pollAt_of 0 (by decide),
    nothing_without_packet _ _, by decide⟩

/-- RESULT 2, 3, 1 and 4. -/
theorem witness_PollResultTellsState :
    (∃ t, exec .poll (polled 7 true none true (at' 0 1 0 [] (some 5))) = .next t ∧
      (t.answer == .response 0x12) = true) ∧
    (∃ t, exec .poll (polled 68 true none true (at' 1 3 68 [] (some 67))) = .next t ∧
      (t.answer == .response 0x13) = true) ∧
    (∃ t, exec .poll (polled 1 true none true (at' 2 3 0 [] (some 0))) = .next t ∧
      (t.answer == .response 0x11) = true) ∧
    ∃ t, exec .poll (polled 1 true (some packetD2) true (at' 2 3 0 [] (some 0))) = .next t ∧
      (t.answer == .response 0x2001200000000114) = true :=
  ⟨exists_of_holdsNext (by decide), exists_of_holdsNext (by decide), exists_of_holdsNext (by decide),
    exists_of_holdsNext (by decide)⟩

theorem witness_PollSendsAndTakesAtMostOne :
    ∃ t, exec .poll (polled 1 true (some packetD8) true (at' 2 3 0 [w1] (some 0))) = .next t ∧
      (t.inbox == [] && t.trace == [.tx (encodeCommand testCfg w1)]) = true :=
  exists_of_holdsNext (by decide)

/-- The last millisecond before the timer expires, in READY. -/
theorem witness_NoFrameBeforeNextTime :
    (polled 109 true none true (at' 2 3 110 [w1] (some 100))).inputs.now <
      (polled 109 true none true (at' 2 3 110 [w1] (some 100))).nextTime ∧
    (at' 2 3 110 [w1] (some 100)).ctrlState ≠ ctrlDisconnected ∧
    ∃ t, exec .poll (polled 109 true none true (at' 2 3 110 [w1] (some 100))) = .next t ∧
      (t.trace == [] ++ []) = true :=
  ⟨by decide, by decide, exists_of_holdsNext (by decide)⟩

/-- V-P13: a send that failed. -/
theorem witness_SendFailureShowsOnlyInTxErr :
    ∃ t, exec .poll (polled 50 true none false (at' 2 3 50 [w1] (some 40))) = .next t ∧
      (t.answer == .response 0x19 && t.trace == [] ++ [.tx (encodeCommand testCfg w1)]) = true :=
  exists_of_holdsNext (by decide)

/-- The delays' boundaries: 7, 11, 15 and 75 ms with HS_DELAY 4 and INIT_DELAY 60. -/
theorem witness_HandshakeCompletesInOrder :
    (at' 0 1 0 [w1] (some 7)).ctrlState = ctrlDisconnected ∧
    (∀ t, (at' 0 1 0 [w1] (some 7)).lastNow = some t → t ≤ 7) ∧ 7 + testCfg.hsDelay ≤ 11 ∧
    11 + testCfg.hsDelay ≤ 15 ∧ 15 + testCfg.initDelay ≤ 75 ∧ 75 + testCfg.maxWait ≤ testCfg.maxTime :=
  ⟨by decide, fun _ h => (by cases h; decide), by decide, by decide, by decide, by decide⟩

/-- The shortest and the longest payload. -/
theorem witness_EncodedFrameLayout : 1 ≤ (1 : BitVec 8).toNat ∧ 1 ≤ (255 : BitVec 8).toNat := by decide

theorem witness_ChecksumSumsToZero : 1 ≤ w1.len.toNat ∧ 1 ≤ r1.len.toNat := by decide

/-- Each premise at its boundary. -/
theorem witness_FrameInstructionsCompose :
    LegalLen testCfg 1 ∧ LegalLen testCfg 4 ∧ ¬LegalLen testCfg 0 ∧ ¬LegalLen testCfg 5 ∧
    4 ≤ testCfg.maxPayload ∧ ({ testCfg with maxPayload := 3 } : Config).maxPayload < 4 ∧
    1 ≤ ({ testCfg with maxPayload := 1 } : Config).maxPayload ∧
    ({ testCfg with maxPayload := 0 } : Config).maxPayload = 0 := by decide

/-- A state in a reassembly after this many groups. -/
def afterGroups (n : Nat) : State := { State.resetWith testCfg with rxGroups := n }

/-- Both premises where they meet: the sixteenth group of a packet of 64 bytes, and the seventeenth. -/
theorem witness_GroupInstructionsStepReassembly :
    4 * ((afterGroups 15).rxGroups + 1) ≤ (afterGroups 15).cfg.rxMaxBytes ∧
    (afterGroups 16).cfg.rxMaxBytes < 4 * ((afterGroups 16).rxGroups + 1) := by decide

/-- The longest packet of the defaults. -/
theorem witness_GroupInstructionsRefineReassemble :
    State.reset.reasm = ⟨[], none⟩ ∧ State.reset.rxGroups = 0 ∧
    4 * (List.replicate 16 ((0x04, 1, 2, 3) : EventGroup)).length ≤ State.reset.cfg.rxMaxBytes := by decide

/-- A group that fills the last place, and one past it. -/
theorem witness_ReassemblyIsBounded :
    BuffersFit (afterGroups 15) ∧
    (∃ t, exec (.cin4 0 1 2 3) (afterGroups 15) = .next t ∧ (t.rxGroups == 16) = true) ∧
    BuffersFit (afterGroups 16) ∧
    ∃ t, exec (.cin4 0 1 2 3) (afterGroups 16) = .next t ∧ (t.answer == .refused .rxTooLong) = true :=
  ⟨⟨by decide, by decide, by decide⟩, exists_of_holdsNext (by decide), ⟨by decide, by decide, by decide⟩,
    exists_of_holdsNext (by decide)⟩

/-- A state about to do a codec operation, its buffers not empty. -/
def codecAsked (code : Encoded) : State :=
  { at' 0 1 0 [w1] none with
    stream := [.operation code Inputs.idle []], frameBuf := [1], reasm := ⟨[1], some .endSeen⟩ }

/-- The three premises, RX_MAX_BYTES and MAX_PAYLOAD at their smallest. -/
theorem witness_CodecOperationsAnswerAndRelease :
    (codecAsked (.group 0x05 0xF7 0 0)).stream ≠ [] ∧
    (∃ t, step (codecAsked (.group 0x05 0xF7 0 0)) = .next t ∧
      (t.answer == .reassembled ⟨[0xF7], some .endSeen⟩ && t.frameBuf == []) = true) ∧
    4 ≤ smallCfg.rxMaxBytes ∧ 4 ≤ smallCfg.maxPayload ∧
    decode testCfg (.frame handshakeFrame) = .ok .handshake :=
  ⟨by decide, exists_of_holdsNext (by decide), by decide, by decide, by decide⟩

theorem witness_TrailingFragmentIgnored : 4 ∣ packetD2.length ∧ ([1, 2, 3] : Packet).length < 4 := by decide

/-- CIN 3 and CIN 8, after a group that leaves reassembly running. -/
theorem witness_OtherCinEndsReassembly :
    4 ∣ ([0x04, 1, 2, 3] : Packet).length ∧ (reassemble [0x04, 1, 2, 3]).term = some .exhausted ∧
    (0x03 : Byte).toNat % 16 < 4 ∧ 7 < (0x08 : Byte).toNat % 16 := by decide

/-- Each CIN with END at its last taken byte. -/
theorem witness_EndByteEndsReassembly :
    4 ∣ ([] : Packet).length ∧ (reassemble []).term = some .exhausted ∧
    (0x04 : Byte).toNat % 16 = 4 ∧ 0xF7 ∈ ([1, 2, 0xF7] : List Byte).take 3 ∧
    (0x05 : Byte).toNat % 16 = 5 ∧ 0xF7 ∈ ([0xF7, 2, 3] : List Byte).take 1 ∧
    (0x06 : Byte).toNat % 16 = 6 ∧ 0xF7 ∈ ([1, 0xF7, 3] : List Byte).take 2 ∧
    (0x07 : Byte).toNat % 16 = 7 ∧ 0xF7 ∈ ([1, 2, 0xF7] : List Byte).take 3 := by decide

theorem witness_DecodeAcceptsExactly : decodePacket testCfg packetD2 = some (0x20012000, 0x01) := by decide

/-- `Packs` from facts that decide. -/
theorem packs_of {gs : List EventGroup} {f : Frame}
    (h : gs.all (fun g => cinCount (groupCin g.1) != 0) = true ∧ gs.flatMap groupData = f) : Packs gs f :=
  ⟨by simpa using h.1, h.2 ▸ List.prefix_rfl⟩

/-- V-D2's packet packs the frame of its command. -/
theorem witness_FrameRoundTrip :
    testCfg.wireId.Legal ∧ endByte ∉ addrBytes 0x20012000 ∧ (0x01 : Byte) ≠ endByte ∧
    Packs (groupsOf packetD2) (encodeCommand testCfg ⟨0x20012000, 0x01, 1, .write⟩) :=
  ⟨by decide, by decide, by decide, packs_of (by decide)⟩

/-- The groups of three bytes each that carry a list of bytes, for the witnesses below. -/
def packed : List Byte → List EventGroup
  | a :: b :: c :: rest => (0x04, a, b, c) :: packed rest
  | [a, b] => [(0x06, a, b, 0)]
  | [a] => [(0x05, a, 0, 0)]
  | [] => []

/-- The three clauses, lengths 1, 2 and 3 (V-RT7's kind). -/
theorem witness_EndByteBreaksRoundTrip :
    (Packs (packed (encodeCommand testCfg ⟨0x0000F700, 0x01, 1, .write⟩))
        (encodeCommand testCfg ⟨0x0000F700, 0x01, 1, .write⟩) ∧ endByte ∈ addrBytes 0x0000F700) ∧
    (Packs (packed (encodeCommand testCfg ⟨0, 0xF7, 2, .write⟩))
        (encodeCommand testCfg ⟨0, 0xF7, 2, .write⟩) ∧ endByte ∉ addrBytes 0) ∧
    Packs (packed (encodeCommand testCfg ⟨0, 0xF7, 3, .write⟩)) (encodeCommand testCfg ⟨0, 0xF7, 3, .write⟩) ∧
    testCfg.validateRxChecksum = false :=
  ⟨⟨packs_of (by decide), by decide⟩, ⟨packs_of (by decide), by decide⟩, packs_of (by decide), by decide⟩

end Sys2Proof.Tests
end

section
/-! The state right after reset (00_scope.md): R9's default values are legal, and R31's reset values meet R36. -/

namespace Sys2Proof

/-- R9, R30: each default lies in its legal range. -/
theorem Config.defaults_legal : Config.defaults.Legal := by
  constructor <;> decide

end Sys2Proof

namespace Sys2Proof.Machine

/-- No command is queued, so R36 (d) asks nothing. -/
@[simp] theorem queueLegal_nil (cfg : Config) : QueueLegal cfg [] :=
  List.forall_mem_nil _

theorem ctrlDisconnected_ne_unused : ctrlDisconnected ≠ 0b11 := by decide

theorem ctrlDisconnected_ne_handshaking : ctrlDisconnected ≠ ctrlHandshaking := by decide

/-- R31, R36: an empty queue, DISCONNECTED and a zero timer meet (a) to (e) under every legal configuration. -/
theorem stateInv_resetWith {cfg : Config} (legal : cfg.Legal) : StateInv (State.resetWith cfg) where
  cfg_legal := legal
  queue_bounded := Nat.zero_le _
  ctrl_used := ctrlDisconnected_ne_unused
  hs_used handshaking := absurd handshaking ctrlDisconnected_ne_handshaking
  queue_legal := queueLegal_nil cfg
  time_fits := Nat.zero_le _

/-- Settles O11: `stateInv_resetWith` for every legal configuration, and the defaults are legal. -/
theorem resetStateMeetsInvariant : Obligations.ResetStateMeetsInvariant :=
  ⟨fun cfg legal => ⟨stateInv_resetWith legal, resetWith_refused cfg, resetWith_trace cfg, resetWith_lastNow cfg⟩,
    Config.defaults_legal, rfl⟩

end Sys2Proof.Machine
end

section
/-! What instructions other than POLL leave alone (10_state.md R37, 60_exceptions.md R200), and the static
configuration (10_state.md R30). -/

namespace Sys2Proof.Machine

/-- Enqueue writes the queue and the trace only (R131). -/
theorem sameController_enqueue (c : Command) (s : State) : SameController s (enqueue c s) := by
  rw [enqueue_eq]; exact ⟨rfl, rfl, rfl, rfl, rfl⟩

theorem sameOutside_enqueue (c : Command) (s : State) : SameOutside s (enqueue c s) := by
  rw [enqueue_eq]; exact ⟨rfl, rfl, rfl⟩

/-- From `s` to `t` events were appended, none of them a frame handed to `SendFrame` (R214). -/
def SendsNothing (s t : State) : Prop := ∃ es, t.trace = s.trace ++ es ∧ txFrames es = []

theorem sendsNothing_of_trace_eq {s t : State} (h : t.trace = s.trace) : SendsNothing s t :=
  ⟨[], by simpa using h, rfl⟩

/-- Enqueue's only event is the eviction (R132). -/
theorem sendsNothing_enqueue (c : Command) (s : State) : SendsNothing s (enqueue c s) := by
  rw [enqueue_eq]
  refine ⟨_, rfl, ?_⟩
  cases s.queue <;> split <;> rfl

/-- R21, R37, R142, R200: the cases of an instruction other than POLL. -/
theorem ExecCase.sameController_sameOutside_sendsNothing {i : Instr} {s t : State}
    (case : ExecCase i s t) (notPoll : i ≠ .poll) : SameController s t ∧ SameOutside s t ∧ SendsNothing s t := by
  cases case with
  | poll instr _ => exact absurd instr notPoll
  | enqueue c _ eq =>
    subst eq; exact ⟨sameController_enqueue c s, sameOutside_enqueue c s, sendsNothing_enqueue c s⟩
  | query _ eq =>
    subst eq; exact ⟨⟨rfl, rfl, rfl, rfl, rfl⟩, ⟨rfl, rfl, rfl⟩, sendsNothing_of_trace_eq rfl⟩
  | refusal _ _ _ eq =>
    subst eq; exact ⟨⟨rfl, rfl, rfl, rfl, rfl⟩, ⟨rfl, rfl, rfl⟩, sendsNothing_of_trace_eq rfl⟩
  | frame _ _ eq =>
    subst eq; exact ⟨⟨rfl, rfl, rfl, rfl, rfl⟩, ⟨rfl, rfl, rfl⟩, sendsNothing_of_trace_eq rfl⟩
  | group _ _ _ _ _ _ _ eq =>
    subst eq; exact ⟨⟨rfl, rfl, rfl, rfl, rfl⟩, ⟨rfl, rfl, rfl⟩, sendsNothing_of_trace_eq rfl⟩

/-- Settles O21, by the cases of `exec_cases`. -/
theorem onlyPollTouchesController : Obligations.OnlyPollTouchesController :=
  fun _ _ _ notPoll h => (exec_cases h).sameController_sameOutside_sendsNothing notPoll

/-! ### The configuration -/

@[simp] theorem pollDisconnected_cfg (s : State) : (pollDisconnected s).cfg = s.cfg := by
  unfold pollDisconnected; split <;> rfl

theorem DispatchCase.cfg_eq {s t : State} (case : DispatchCase s t) : t.cfg = s.cfg := by
  cases case with
  | send _ _ _ _ _ eq => subst eq; rfl
  | idle _ eq => subst eq; rfl

theorem PollCase.cfg_eq {s t : State} (case : PollCase s t) : t.cfg = s.cfg := by
  cases case with
  | badTime _ _ eq => subst eq; rfl
  | disconnected _ _ eq => subst eq; exact pollDisconnected_cfg s
  | connect _ _ _ eq => subst eq; rfl
  | wait _ _ _ _ eq => subst eq; rfl
  | secondHandshake _ _ _ _ _ eq => subst eq; rfl
  | editMode _ _ _ _ _ eq => subst eq; rfl
  | justReady _ _ _ _ _ eq => subst eq; rfl
  | rxTooLong _ _ _ _ _ _ eq => subst eq; exact takePacket_cfg s
  | receive _ _ _ _ _ _ _ _ _ eq => subst eq; exact takePacket_cfg s
  | discard _ _ _ _ _ _ _ dispatch => exact dispatch.cfg_eq.trans (takePacket_cfg s)
  | noPacket _ _ _ _ dispatch => exact dispatch.cfg_eq

theorem ExecCase.cfg_eq {i : Instr} {s t : State} (case : ExecCase i s t) : t.cfg = s.cfg := by
  by_cases hi : i = .poll
  · subst hi; exact case.of_poll.cfg_eq
  · obtain ⟨⟨cfg, -⟩, -⟩ := case.sameController_sameOutside_sendsNothing hi
    exact cfg

/-- Settles O14: neither an instruction, a refusal nor a reset pulse writes the configuration (R30, R220). -/
theorem configurationIsStatic : Obligations.ConfigurationIsStatic := by
  intro s t h
  cases step_cases h with
  | idle _ eq => rw [eq]
  | reset _ _ eq => subst eq; rfl
  | rejected _ _ _ _ _ _ eq => subst eq; rfl
  | run _ _ _ _ _ _ _ _ case eq => subst eq; exact case.cfg_eq

end Sys2Proof.Machine
end

section
/-! The invariants (a) to (e) of R36 are kept: one lemma per named update, one per case of POLL, then
instructions and steps (10_state.md R36). -/

namespace Sys2Proof.Machine

/-! ### Named updates -/

section
variable {s t : State}

/-- R36 speaks of the hardware state only. -/
theorem StateInv.of_sameHardware (inv : StateInv s) (same : SameHardware s t) : StateInv t := by
  obtain ⟨cfg, ctrl, hs, time, queue⟩ := same
  constructor <;> simp only [cfg, ctrl, hs, time, queue]
  exacts [inv.cfg_legal, inv.queue_bounded, inv.ctrl_used, inv.hs_used, inv.queue_legal, inv.time_fits]

theorem StateInv.refuse (inv : StateInv s) (r : Reason) : StateInv (refuse r s) :=
  inv.of_sameHardware ⟨rfl, rfl, rfl, rfl, rfl⟩

theorem StateInv.emit (inv : StateInv s) (e : Event) : StateInv (emit e s) :=
  inv.of_sameHardware ⟨rfl, rfl, rfl, rfl, rfl⟩

theorem StateInv.sendFrame (inv : StateInv s) (f : Frame) : StateInv (sendFrame f s) :=
  inv.emit (.tx f)

theorem StateInv.complete (inv : StateInv s) (r : Response) : StateInv (complete r s) :=
  inv.of_sameHardware ⟨rfl, rfl, rfl, rfl, rfl⟩

theorem StateInv.takePacket (inv : StateInv s) : StateInv (takePacket s) :=
  inv.of_sameHardware (by simp [SameHardware])

theorem StateInv.setQueue (inv : StateInv s) {q : List Command} (bounded : q.length ≤ s.cfg.queueN)
    (legal : QueueLegal s.cfg q) : StateInv (setQueue q s) :=
  { inv with queue_bounded := bounded, queue_legal := legal }

theorem StateInv.setHsStep (inv : StateInv s) {k : BitVec 2} (used : k = 1 ∨ k = 2 ∨ k = 3) :
    StateInv (setHsStep k s) :=
  { inv with hs_used := fun _ => used }

theorem StateInv.loadTimer (inv : StateInv s) {d : Nat} (fits : s.inputs.now + d ≤ s.cfg.maxTime) :
    StateInv (loadTimer d s) :=
  { inv with time_fits := fits }

/-- HANDSHAKING is left out: it is entered together with its `hs_step` (R157). -/
theorem StateInv.enterState (inv : StateInv s) {c : BitVec 2} (used : c ≠ 0b11)
    (settled : c ≠ ctrlHandshaking) : StateInv (enterState c s) :=
  { inv with ctrl_used := used, hs_used := fun handshaking => absurd handshaking settled }

/-- Enqueue keeps the queue bounded and legal (R130, R36 (a), (d)). -/
theorem StateInv.enqueueAnswer (inv : StateInv s) {c : Command}
    (legal : LegalLen s.cfg c.len ∧ (c.op = .read → c.len = readLen)) : StateInv (enqueueAnswer c s) := by
  have bounded := enqueue_length_le (c := c) inv.cfg_legal.queueN_pos inv.queue_bounded
  have queue_legal : QueueLegal s.cfg (enqueue c s).queue := fun d hd =>
    (mem_of_mem_enqueue hd).elim (inv.queue_legal d) (fun new => new ▸ legal)
  obtain ⟨cfg, ctrl, hs, time, -⟩ := sameController_enqueue c s
  exact (inv.setQueue (cfg ▸ bounded) queue_legal).of_sameHardware ⟨cfg, ctrl, hs, time, rfl⟩

end

/-! ### POLL -/

section
variable {s t : State}

/-- A POLL that passes R168's check loads no interval past the timer's range. -/
theorem timer_fits {d : Nat} (timely : timeRefusal s = none) (interval : d ≤ s.cfg.maxWait) :
    s.inputs.now + d ≤ s.cfg.maxTime :=
  (Nat.add_le_add_left interval _).trans (timeRefusal_eq_none.mp timely).2

theorem pacingInterval_le_maxWait (cfg : Config) (op : Op) : pacingInterval cfg op ≤ cfg.maxWait := by
  obtain ⟨-, -, -, read, write⟩ := interval_le_maxWait cfg
  cases op
  · exact write
  · exact read

@[simp] theorem timeRefusal_takePacket (s : State) : timeRefusal (takePacket s) = timeRefusal s := by
  simp [timeRefusal, timeGoesBack, timeOverflows]

theorem StateInv.pollDisconnected (inv : StateInv s) : StateInv (pollDisconnected s) := by
  unfold Machine.pollDisconnected
  split
  · exact inv.complete _
  · exact (inv.enterState ctrlDisconnected_ne_unused ctrlDisconnected_ne_handshaking).complete _

theorem StateInv.pollConnect (inv : StateInv s) (timely : timeRefusal s = none) : StateInv (pollConnect s) :=
  { inv with
    ctrl_used := show ctrlHandshaking ≠ 0b11 by decide
    hs_used := fun _ => .inl rfl
    time_fits := timer_fits timely (interval_le_maxWait s.cfg).1 }

theorem DispatchCase.stateInv (case : DispatchCase s t) (inv : StateInv s) (timely : timeRefusal s = none) :
    StateInv t := by
  cases case with
  | send c rest queue_eq _ _ eq =>
    have bounded : rest.length ≤ s.cfg.queueN := by
      have := inv.queue_bounded; rw [queue_eq] at this; exact Nat.le_of_succ_le this
    have legal : QueueLegal s.cfg rest := fun d hd =>
      inv.queue_legal d (queue_eq ▸ List.mem_cons_of_mem c hd)
    subst eq
    exact (((inv.setQueue bounded legal).sendFrame _).loadTimer
      (timer_fits timely (pacingInterval_le_maxWait s.cfg c.op))).complete _
  | idle _ eq => subst eq; exact inv.complete _

/-- R36 through every case of R154. -/
theorem PollCase.stateInv (case : PollCase s t) (inv : StateInv s) : StateInv t := by
  obtain ⟨hsDelay, initDelay, receiveInterval, -, -⟩ := interval_le_maxWait s.cfg
  cases case with
  | badTime r _ eq => subst eq; exact inv.refuse r
  | disconnected _ _ eq => subst eq; exact inv.pollDisconnected
  | connect timely _ _ eq => subst eq; exact inv.pollConnect timely
  | wait _ _ _ _ eq => subst eq; exact inv.complete _
  | secondHandshake timely _ _ _ _ eq =>
    subst eq
    exact (((inv.sendFrame _).loadTimer (timer_fits timely hsDelay)).setHsStep (.inr (.inl rfl))).complete _
  | editMode timely _ _ _ _ eq =>
    subst eq
    exact (((inv.sendFrame _).loadTimer (timer_fits timely initDelay)).setHsStep (.inr (.inr rfl))).complete _
  | justReady _ _ _ _ _ eq => subst eq; exact (inv.enterState (by decide) (by decide)).complete _
  | rxTooLong _ _ _ _ _ _ eq => subst eq; exact inv.takePacket.refuse _
  | receive timely _ _ _ _ _ _ _ _ eq =>
    subst eq
    have fits : (takePacket s).inputs.now + (takePacket s).cfg.receiveInterval ≤ (takePacket s).cfg.maxTime := by
      simpa using timer_fits timely receiveInterval
    exact ((inv.takePacket.loadTimer fits).emit _).complete _
  | discard timely _ _ _ _ _ _ dispatch =>
    exact dispatch.stateInv inv.takePacket ((timeRefusal_takePacket s).trans timely)
  | noPacket timely _ _ _ dispatch => exact dispatch.stateInv inv timely

end

/-! ### Instructions and steps -/

/-- A READ's length is legal under every legal configuration (R9, R139). -/
theorem legalLen_readLen {cfg : Config} (room : 4 ≤ cfg.maxPayload) : LegalLen cfg readLen :=
  ⟨by decide, room⟩

theorem ExecCase.stateInv {i : Instr} {s t : State} (case : ExecCase i s t) (inv : StateInv s) :
    StateInv t := by
  cases case with
  | poll _ case => exact case.stateInv inv
  | enqueue c instr eq =>
    subst eq
    obtain ⟨addr, value, len, -, rfl, legal⟩ | ⟨addr, probe, -, rfl⟩ := instr
    · exact inv.enqueueAnswer ⟨legal, Op.noConfusion⟩
    · exact inv.enqueueAnswer ⟨legalLen_readLen inv.cfg_legal.maxPayload_ge, fun _ => rfl⟩
  | query _ eq => subst eq; exact inv.of_sameHardware ⟨rfl, rfl, rfl, rfl, rfl⟩
  | refusal r _ _ eq => subst eq; exact inv.refuse r
  | frame _ _ eq => subst eq; exact inv.of_sameHardware ⟨rfl, rfl, rfl, rfl, rfl⟩
  | group _ _ _ _ _ _ _ eq => subst eq; exact inv.of_sameHardware ⟨rfl, rfl, rfl, rfl, rfl⟩

/-- The state an operation starts in (R32, R34). -/
theorem StateInv.present {s : State} (inv : StateInv s) (inputs : Inputs) (arrivals : List Packet)
    (rest : List Stimulus) : StateInv (present inputs arrivals rest s) :=
  inv.of_sameHardware ⟨rfl, rfl, rfl, rfl, rfl⟩

theorem StateInv.finish {s : State} (inv : StateInv s) (code : Encoded) : StateInv (finish code s) :=
  inv.of_sameHardware ⟨rfl, rfl, rfl, rfl, rfl⟩

/-- A reset pulse writes R31's reset values under the configuration as it stands (R220). -/
theorem stateInv_hardReset {s : State} (legal : s.cfg.Legal) : StateInv (hardReset s) :=
  (stateInv_resetWith legal).of_sameHardware ⟨rfl, rfl, rfl, rfl, rfl⟩

/-- Settles O12, by the cases of `step_cases`. -/
theorem stepKeepsInvariant : Obligations.StepKeepsInvariant := by
  intro s t inv h
  cases step_cases h with
  | idle _ eq => exact eq ▸ inv
  | reset _ _ eq => subst eq; exact stateInv_hardReset inv.cfg_legal
  | rejected _ inputs arrivals rest _ _ eq => subst eq; exact (inv.present inputs arrivals rest).refuse _
  | run code inputs arrivals rest _ _ _ _ case eq =>
    subst eq
    exact (case.stateInv (inv.present inputs arrivals rest)).finish code

end Sys2Proof.Machine
end

section
/-! What a step does with a stimulus, forward: the frame and group instructions a stimulus decodes to and
their next states (30_encoding.md R77 to R83, 40_frame_codec.md R100, R110). -/

namespace Sys2Proof

/-! ### What an encoding decodes to -/

theorem decodeBare_eq_ok {w : RequestWord} {i j : Instr} (h : decodeBare w i = .ok j) : j = i := by
  unfold decodeBare at h
  split at h
  · cases h; rfl
  · cases h

theorem decodeWrite_eq_ok {w : RequestWord} {j : Instr} (h : decodeWrite w = .ok j) :
    j = .write (reqAddr w) (reqVal w) (reqLen w) := by
  unfold decodeWrite at h
  split at h
  · cases h; rfl
  · cases h

theorem decodeRead_eq_ok {w : RequestWord} {j : Instr} (h : decodeRead w = .ok j) :
    j = .read (reqAddr w) (reqVal w) := by
  unfold decodeRead at h
  split at h
  · cases h; rfl
  · cases h

/-- No request word stands for a frame instruction (R73). -/
theorem frameBytes_of_decodeRequest {w : RequestWord} {i : Instr} (h : decodeRequest w = .ok i)
    (cfg : Config) : frameBytes cfg i = none := by
  unfold decodeRequest at h
  split at h
  case h_1 => rw [decodeBare_eq_ok h]; rfl
  case h_2 => rw [decodeWrite_eq_ok h]; rfl
  case h_3 => rw [decodeRead_eq_ok h]; rfl
  case h_4 => rw [decodeBare_eq_ok h]; rfl
  case h_5 => rw [decodeBare_eq_ok h]; rfl
  all_goals cases h; rfl

/-- A frame is read as an instruction with exactly its bytes (R77 to R81). -/
theorem decodeFrame_eq_ok {cfg : Config} {bytes : Frame} {i : Instr} (h : decodeFrame cfg bytes = .ok i) :
    WellFormed cfg i = true ∧ frameBytes cfg i = some bytes := by
  unfold decodeFrame at h
  split at h
  · split at h
    · next accepted => cases h; exact accepted
    · cases h
  · cases h

/-- What is wrong with a request word is its reserved bits (R76). -/
theorem decodeRequest_ne_notAFrame (w : RequestWord) : decodeRequest w ≠ .error .notAFrame := by
  unfold decodeRequest decodeBare decodeWrite decodeRead
  split <;> simp [ite_eq_iff]

end Sys2Proof

namespace Sys2Proof.Machine

/-! ### What an instruction answers -/

theorem composeFrame_of_legal {c : Command} {s : State} (legal : LegalLen s.cfg c.len) :
    composeFrame c s = .next (loadFrame (encodeCommand s.cfg c) s) :=
  if_pos (lengthOk_iff.mpr legal)

theorem legalLen_editCommand {cfg : Config} (room : 4 ≤ cfg.maxPayload) : LegalLen cfg editCommand.len :=
  ⟨by decide, Nat.le_trans (by decide) room⟩

/-- A well-formed frame instruction fills the outbound frame buffer with its bytes (R77, R100). -/
theorem exec_frame {i : Instr} {f : Frame} {s : State} (bytes : frameBytes s.cfg i = some f)
    (wellFormed : WellFormed s.cfg i = true) (room : 4 ≤ s.cfg.maxPayload) :
    exec i s = .next (loadFrame f s) := by
  cases i with
  | writeFrame addr value len =>
    have legal : LegalLen s.cfg len := by simp [WellFormed] at wellFormed; exact wellFormed.1
    cases bytes; exact composeFrame_of_legal legal
  | readFrame addr probe => cases bytes; exact composeFrame_of_legal (legalLen_readLen room)
  | handshake => cases bytes; rfl
  | editFrame => cases bytes; exact composeFrame_of_legal (legalLen_editCommand room)
  | _ => cases bytes

/-- A group's instruction is one turn of Reassemble's loop for its CIN (R83, R110). -/
theorem exec_decodeGroup (b0 b1 b2 b3 : Byte) (s : State) :
    exec (decodeGroup b0 b1 b2 b3) s = .next (acceptGroup (groupCin b0) b1 b2 b3 s) := by
  unfold decodeGroup
  generalize groupCin b0 = cin
  obtain ⟨n, hn⟩ := cin
  interval_cases n <;> rfl

/-! ### What a step does -/

theorem step_of_idle {s : State} (stream : s.stream = []) : step s = .next s := by
  simp [step, fetch, stream]

theorem step_of_reset {s : State} {rest : List Stimulus} (stream : s.stream = .reset :: rest) :
    step s = .next (hardReset { s with stream := rest }) := by
  simp [step, fetch, stream]

section
variable {s : State} {code : Encoded} {inputs : Inputs} {arrivals : List Packet} {rest : List Stimulus}
  (stream : s.stream = .operation code inputs arrivals :: rest)
include stream

theorem step_of_decoded {i : Instr} (decoded : decode s.cfg code = .ok i) :
    step s = finishOut code (exec i (present inputs arrivals rest s)) := by
  simp [step, fetch, stream, decoded]

theorem step_of_executed {i : Instr} {u : State} (decoded : decode s.cfg code = .ok i)
    (executed : exec i (present inputs arrivals rest s) = .next u) : step s = .next (finish code u) := by
  rw [step_of_decoded stream decoded, executed]; rfl

theorem step_of_rejected {e : DecodeError} (rejected : decode s.cfg code = .error e) :
    step s = reject e (present inputs arrivals rest s) := by
  simp [step, fetch, stream, rejected]

end

end Sys2Proof.Machine
end

section
/-! From a state that meets R36 no step faults (10_state.md R36, 60_exceptions.md R190, R197). -/

namespace Sys2Proof.Machine

/-! ### POLL -/

section
variable {s : State}

/-- The oldest command of a legal queue can be sent (R36 (d), R163). -/
theorem pollDispatch_next (legal : QueueLegal s.cfg s.queue) : ∃ t, pollDispatch s = .next t := by
  by_cases due : s.nextTime ≤ s.inputs.now
  · cases queue : s.queue with
    | nil => exact ⟨_, pollDispatch_idle (.inr queue)⟩
    | cons c rest =>
      exact ⟨_, pollDispatch_send due queue (legal c (queue ▸ List.mem_cons_self)).1⟩
  · exact ⟨_, pollDispatch_idle (.inl (Nat.lt_of_not_le due))⟩

theorem pollReady_next (legal : QueueLegal s.cfg s.queue) : ∃ t, pollReady s = .next t := by
  unfold pollReady
  split
  · unfold pollPacket
    split
    · exact ⟨_, rfl⟩
    · split
      · exact ⟨_, rfl⟩
      · exact pollDispatch_next (by simpa using legal)
  · exact pollDispatch_next legal

/-- R154 has a case for each `hs_step` of R36 (c). -/
theorem pollHandshaking_next (used : s.hsStep = 1 ∨ s.hsStep = 2 ∨ s.hsStep = 3) :
    ∃ t, pollHandshaking s = .next t := by
  unfold pollHandshaking
  split
  · exact ⟨_, rfl⟩
  · rcases used with hs | hs | hs <;> rw [hs] <;> exact ⟨_, rfl⟩

theorem ctrlState_cases {c : BitVec 2} (used : c ≠ 0b11) :
    c = ctrlDisconnected ∨ c = ctrlHandshaking ∨ c = ctrlReady := by
  revert c; decide

theorem execPoll_next (inv : StateInv s) : ∃ t, execPoll s = .next t := by
  cases timely : timeRefusal s with
  | some r => exact ⟨refuse r s, by simp [execPoll, timely]⟩
  | none =>
    cases on : s.inputs.connected with
    | false => exact ⟨pollDisconnected s, by simp [execPoll, timely, on]⟩
    | true =>
      have pollAt {ctrl : BitVec 2} (h : s.ctrlState = ctrl) : PollAt ctrl s :=
        ⟨timeRefusal_eq_none.mp timely, on, h⟩
      rcases ctrlState_cases inv.ctrl_used with h | h | h
      · exact ⟨_, execPoll_disconnected (pollAt h)⟩
      · rw [execPoll_handshaking (pollAt h)]; exact pollHandshaking_next (inv.hs_used h)
      · rw [execPoll_ready (pollAt h)]; exact pollReady_next inv.queue_legal

end

/-! ### Instructions and steps -/

/-- A WRITE is enqueued or refused (R138, R76). -/
theorem execWrite_next (addr : ParamAddr) (value : Byte) (len : BitVec 8) (s : State) :
    ∃ t, execWrite addr value len s = .next t := by
  unfold execWrite
  split <;> exact ⟨_, rfl⟩

/-- Only POLL and the frame instructions can stop at all (R190). -/
theorem exec_next_of_not_frame {s : State} {i : Instr} (inv : StateInv s) (notFrame : frameBytes s.cfg i = none) :
    ∃ t, exec i s = .next t := by
  cases i with
  | poll => exact execPoll_next inv
  | write addr value len => exact execWrite_next addr value len s
  | writeFrame => cases notFrame
  | readFrame => cases notFrame
  | handshake => cases notFrame
  | editFrame => cases notFrame
  | _ => exact ⟨_, rfl⟩

/-- What an encoding decodes to answers a next state; a write frame's length is legal because it decoded. -/
theorem exec_next_of_decoded {s : State} {code : Encoded} {i : Instr} (inv : StateInv s)
    (decoded : decode s.cfg code = .ok i) : ∃ t, exec i s = .next t := by
  cases code with
  | request w => exact exec_next_of_not_frame inv (frameBytes_of_decodeRequest decoded s.cfg)
  | frame f =>
    obtain ⟨wellFormed, bytes⟩ := decodeFrame_eq_ok decoded
    exact ⟨_, exec_frame bytes wellFormed inv.cfg_legal.maxPayload_ge⟩
  | group b0 b1 b2 b3 => cases decoded; exact ⟨_, exec_decodeGroup b0 b1 b2 b3 s⟩

/-- Only an outbound frame can be no encoding at all (R79). -/
theorem eq_frame_of_decode_notAFrame {cfg : Config} {code : Encoded} (h : decode cfg code = .error .notAFrame) :
    ∃ bytes, code = .frame bytes := by
  cases code with
  | request w => exact absurd h (decodeRequest_ne_notAFrame w)
  | frame bytes => exact ⟨bytes, rfl⟩
  | group => cases h

/-- Settles O13: the oldest stimulus is a reset pulse, is rejected, or decodes to an instruction that answers a
next state. -/
theorem safeStatesNeverStop : Obligations.SafeStatesNeverStop := by
  intro s inv
  match stream : s.stream with
  | [] => exact .inl ⟨_, step_of_idle stream⟩
  | .reset :: rest => exact .inl ⟨_, step_of_reset stream⟩
  | .operation code inputs arrivals :: rest =>
    match decoded : decode s.cfg code with
    | .ok i =>
      obtain ⟨u, hu⟩ := exec_next_of_decoded (inv.present inputs arrivals rest) decoded
      exact .inl ⟨_, step_of_executed stream decoded hu⟩
    | .error .reservedBits => exact .inl ⟨_, step_of_rejected stream decoded⟩
    | .error .notAFrame =>
      obtain ⟨bytes, rfl⟩ := eq_frame_of_decode_notAFrame decoded
      exact .inr ⟨step_of_rejected stream decoded, bytes, inputs, arrivals, rest, rfl, decoded⟩

end Sys2Proof.Machine
end

section
/-! The codec operations: their answers, and the empty working buffers between operations (10_state.md R32,
40_frame_codec.md R100, R110, R114). -/

namespace Sys2Proof.Machine

/-- A step that takes a stimulus releases both working buffers (R32). -/
theorem StepCase.buffersEmpty {s t : State} (case : StepCase s t) (busy : s.stream ≠ []) : BuffersEmpty t := by
  cases case with
  | idle stream _ => exact absurd stream busy
  | reset _ _ eq => subst eq; exact ⟨rfl, rfl, rfl⟩
  | rejected _ _ _ _ _ _ eq => subst eq; exact ⟨rfl, rfl, rfl⟩
  | run _ _ _ _ _ _ _ _ _ eq => subst eq; exact ⟨rfl, rfl, rfl⟩

/-- From an empty buffer one group is read as Reassemble reads the packet of that group (R110, R114). -/
theorem endOfGroups_takeGroup_start (g : EventGroup) :
    endOfGroups (takeGroup (groupCin g.1) g.2.1 g.2.2.1 g.2.2.2 Reassembly.start) = reassemble (groupBytes g) :=
  rfl

section
variable {s : State} {inputs : Inputs} {arrivals : List Packet} {rest : List Stimulus}

theorem step_of_group {g : EventGroup}
    (stream : s.stream = .operation (.group g.1 g.2.1 g.2.2.1 g.2.2.2) inputs arrivals :: rest)
    (room : 4 ≤ s.cfg.rxMaxBytes) :
    step s = .next { present inputs arrivals rest s with answer := .reassembled (reassemble (groupBytes g)) } := by
  have fits : groupFits (present inputs arrivals rest s) = true := groupFits_iff.mpr (by simpa using room)
  have executed := exec_decodeGroup g.1 g.2.1 g.2.2.1 g.2.2.2 (present inputs arrivals rest s)
  rw [acceptGroup, if_pos fits] at executed
  exact step_of_executed stream rfl executed

theorem step_of_frame {f : Frame} {i : Instr} (stream : s.stream = .operation (.frame f) inputs arrivals :: rest)
    (decoded : decode s.cfg (.frame f) = .ok i) (room : 4 ≤ s.cfg.maxPayload) :
    step s = .next { present inputs arrivals rest s with answer := .composed f } := by
  obtain ⟨wellFormed, bytes⟩ := decodeFrame_eq_ok decoded
  exact step_of_executed stream decoded (exec_frame bytes wellFormed room)

end

/-- Settles O60: `step_of_group` and `step_of_frame` give the exact next states. -/
theorem codecOperationsAnswerAndRelease : Obligations.CodecOperationsAnswerAndRelease :=
  fun _ => ⟨fun _ busy h => (step_cases h).buffersEmpty busy,
    fun _ _ _ => ⟨fun _ => step_of_group, fun _ _ => step_of_frame⟩⟩

end Sys2Proof.Machine
end

section
/-! POLL before `next_time`, and where R154 has no case (10_state.md R25, 42_dispatch.md R154, R167). -/

namespace Sys2Proof.Machine

theorem DispatchCase.sendsNothing {s t : State} (case : DispatchCase s t) (early : s.inputs.now < s.nextTime) :
    SendsNothing s t := by
  cases case with
  | send _ _ _ due => exact absurd due (Nat.not_le.mpr early)
  | idle _ eq => subst eq; exact sendsNothing_of_trace_eq rfl

theorem sendsNothing_pollDisconnected (s : State) : SendsNothing s (pollDisconnected s) := by
  unfold pollDisconnected
  split
  · exact sendsNothing_of_trace_eq rfl
  · exact ⟨[.state ctrlDisconnected], rfl, rfl⟩

/-- Of R154's cases only the first HANDSHAKE frame's sends before `next_time` (R25, R157, R167). -/
theorem PollCase.sendsNothing {s t : State} (case : PollCase s t) (early : s.inputs.now < s.nextTime)
    (linked : s.ctrlState ≠ ctrlDisconnected) : SendsNothing s t := by
  have notDue : ¬s.nextTime ≤ s.inputs.now := Nat.not_le.mpr early
  cases case with
  | badTime _ _ eq => subst eq; exact sendsNothing_of_trace_eq rfl
  | disconnected _ _ eq => subst eq; exact sendsNothing_pollDisconnected s
  | connect _ _ ctrl => exact absurd ctrl linked
  | wait _ _ _ _ eq => subst eq; exact sendsNothing_of_trace_eq rfl
  | secondHandshake _ _ _ due => exact absurd due notDue
  | editMode _ _ _ due => exact absurd due notDue
  | justReady _ _ _ due => exact absurd due notDue
  | rxTooLong _ _ _ _ _ _ eq => subst eq; exact sendsNothing_of_trace_eq (takePacket_trace s)
  | receive _ _ _ _ _ _ addr value _ eq =>
    subst eq; exact ⟨[.rx addr value], congrArg (· ++ _) (takePacket_trace s), rfl⟩
  | discard _ _ _ _ _ _ _ dispatch =>
    obtain ⟨es, trace, nothing⟩ := dispatch.sendsNothing (by simpa using early)
    exact ⟨es, by simpa using trace, nothing⟩
  | noPacket _ _ _ _ dispatch => exact dispatch.sendsNothing early

/-- Settles O44, by the cases of `exec_cases` for POLL. -/
theorem noFrameBeforeNextTime : Obligations.NoFrameBeforeNextTime := by
  intro s t es h trace early linked
  obtain ⟨es', trace', nothing⟩ := (exec_cases h).of_poll.sendsNothing early linked
  have : es = es' := List.append_cancel_left (trace.symm.trans trace')
  exact this ▸ nothing

/-- R154 has no case for 0b11 (R21). -/
theorem pollConnected_unused {s : State} (unused : s.ctrlState = 0b11) :
    pollConnected s = .fault .ctrlStateUnused := by
  rw [pollConnected, unused]; rfl

/-- R154 has no case for an `hs_step` of 0 (R23). -/
theorem pollHandshaking_unused {s : State} (unused : s.hsStep = 0) (due : s.nextTime ≤ s.inputs.now) :
    pollHandshaking s = .fault .hsStepUnused := by
  simp [pollHandshaking, unused, timerExpired_iff.mpr due]

/-- Settles O41: the three states R154 has no case for, from `ctrl_state` to the queue. -/
theorem pollFaultsWithoutCase : Obligations.PollFaultsWithoutCase := by
  intro s
  refine ⟨fun connected => ?_, fun handshaking unused due => ?_, fun inbox c rest ready nothing due queue illegal => ?_⟩
  · have ⟨_, _, unused⟩ := connected
    exact (execPoll_connected connected).trans (pollConnected_unused unused)
  · exact (execPoll_handshaking handshaking).trans (pollHandshaking_unused unused due)
  · calc exec .poll s = pollReady s := execPoll_ready ready
      _ = pollDispatch { s with inbox := inbox } := pollReady_nothing nothing
      _ = .fault .illegalLength := pollDispatch_illegal due queue illegal

end Sys2Proof.Machine
end

section
/-! A step is `exec` of the decoded instruction between empty buffers (10_state.md R32, 20_memory.md R57), and the
handshake as a run of four POLLs (20_memory.md R63, 42_dispatch.md R157 to R160). -/

namespace Sys2Proof.Machine

/-- Settles O8: `present` and `finish` are the updates the statement writes out. -/
theorem stepRunsDecodedInstruction : Obligations.StepRunsDecodedInstruction := by
  intro s code inputs arrivals rest i stream decoded o
  have runs : step s = finishOut code o := step_of_decoded stream decoded
  exact ⟨fun _ next => runs.trans (congrArg (finishOut code) next),
    fun _ fault => runs.trans (congrArg (finishOut code) fault),
    fun _ refused => runs.trans (congrArg (finishOut code) refused)⟩

/-! ### A POLL's response word -/

/-- R72's layout as arithmetic: each field has its own bit positions. -/
theorem responseWord_eq_answerWord (r : Response) :
    responseWord r = answerWord (resultCode r.result).toNat r.txErr r.qEmpty r.evicted r.rxValue r.rxAddr := by
  apply BitVec.eq_of_toNat_eq
  have result := (resultCode r.result).isLt
  have value := r.rxValue.isLt
  have addr := r.rxAddr.isLt
  have txErr := r.txErr.toNat_le
  have qEmpty := r.qEmpty.toNat_le
  have evicted := r.evicted.toNat_le
  simp only [responseWord, answerWord, toNat_append_eq, BitVec.toNat_ofBool, BitVec.ofNat_eq_ofNat,
    BitVec.toNat_ofNat]
  omega

theorem response_pollResponse (result : PollResult) (txErr : Bool) (s : State) :
    Answer.response (responseWord (pollResponse result txErr s)) =
      pollAnswer (resultCode result).toNat txErr s.queue := by
  rw [responseWord_eq_answerWord, pollAnswer, ← isEmpty_eq]; rfl

/-! ### The due cases of HANDSHAKING -/

section
variable {s : State} (due : s.nextTime ≤ s.inputs.now)
include due

theorem pollHandshaking_secondHandshake (hs : s.hsStep = 1) :
    pollHandshaking s = .next (pollSecondHandshake s) := by
  simp [pollHandshaking, timerExpired_iff.mpr due, hs]

theorem pollHandshaking_editMode (hs : s.hsStep = 2) : pollHandshaking s = .next (pollEditMode s) := by
  simp [pollHandshaking, timerExpired_iff.mpr due, hs]

theorem pollHandshaking_justReady (hs : s.hsStep = 3) : pollHandshaking s = .next (pollJustReady s) := by
  simp [pollHandshaking, timerExpired_iff.mpr due, hs]

end

/-! ### One connected POLL of a run -/

/-- The oldest stimulus is a connected POLL whose `Now` is accepted (R150, R151, R168). -/
structure PolledAt (now : Nat) (sendOk : Bool) (rest : List Stimulus) (s : State) : Prop where
  stream : s.stream = connectedPoll now sendOk :: rest
  monotone : ∀ t, s.lastNow = some t → t ≤ now
  room : now + s.cfg.maxWait ≤ s.cfg.maxTime

/-- The state a connected POLL starts in (`present`), no packet received. -/
def connectedAt (now : Nat) (sendOk : Bool) (rest : List Stimulus) (s : State) : State :=
  present ⟨now, true, false, sendOk⟩ [] rest s

/-- In HANDSHAKING, `k` is the next step and it is due at `due` (R23, R25). -/
structure HandshakeAt (k : BitVec 2) (due : Nat) (s : State) : Prop where
  ctrl : s.ctrlState = ctrlHandshaking
  hs : s.hsStep = k
  time : s.nextTime = due

/-- A step of the handshake: a POLL completed at `now`, appended these events and left the queue alone. -/
structure HandshakeStep (now : Nat) (rest : List Stimulus) (events : List Event) (s t : State) : Prop where
  step_eq : step s = .next t
  cfg : t.cfg = s.cfg
  queue : t.queue = s.queue
  stream : t.stream = rest
  lastNow : t.lastNow = some now
  trace : t.trace = s.trace ++ events

section
variable {s : State} {now due : Nat} {sendOk : Bool} {rest : List Stimulus}

theorem PolledAt.pollAt (polled : PolledAt now sendOk rest s) {ctrl : BitVec 2} (state : s.ctrlState = ctrl) :
    PollAt ctrl (connectedAt now sendOk rest s) :=
  ⟨⟨polled.monotone, polled.room⟩, rfl, state⟩

theorem PolledAt.step_eq (polled : PolledAt now sendOk rest s) {u : State}
    (executed : execPoll (connectedAt now sendOk rest s) = .next u) : step s = .next (finish (.request 0x3) u) :=
  step_of_executed (i := .poll) polled.stream rfl executed

/-- The next POLL, `d` or more later (R31). -/
theorem HandshakeStep.polledAt {t : State} {next : Nat} {events : List Event}
    (done : HandshakeStep now (connectedPoll next sendOk :: rest) events s t) (later : now ≤ next)
    (room : next + s.cfg.maxWait ≤ s.cfg.maxTime) : PolledAt next sendOk rest t where
  stream := done.stream
  monotone _ last := Option.some.inj (done.lastNow.symm.trans last) ▸ later
  room := done.cfg ▸ room

theorem step_connects (polled : PolledAt now sendOk rest s) (down : s.ctrlState = ctrlDisconnected) :
    ∃ t, HandshakeStep now rest [.state ctrlHandshaking, .tx handshakeFrame] s t ∧
      HandshakeAt 1 (now + s.cfg.hsDelay) t :=
  have executed := execPoll_disconnected (polled.pollAt down)
  ⟨_, ⟨polled.step_eq executed, rfl, rfl, rfl, rfl, List.append_assoc ..⟩, rfl, rfl, rfl⟩

theorem HandshakeAt.execPoll_eq {k : BitVec 2} (waits : HandshakeAt k due s) (polled : PolledAt now sendOk rest s) :
    execPoll (connectedAt now sendOk rest s) = pollHandshaking (connectedAt now sendOk rest s) :=
  execPoll_handshaking (polled.pollAt waits.ctrl)

theorem HandshakeAt.due_le {k : BitVec 2} (waits : HandshakeAt k due s) (expired : due ≤ now) :
    (connectedAt now sendOk rest s).nextTime ≤ (connectedAt now sendOk rest s).inputs.now :=
  waits.time.trans_le expired

theorem step_secondHandshake (polled : PolledAt now sendOk rest s) (waits : HandshakeAt 1 due s)
    (expired : due ≤ now) :
    ∃ t, HandshakeStep now rest [.tx handshakeFrame] s t ∧ HandshakeAt 2 (now + s.cfg.hsDelay) t :=
  have executed := (waits.execPoll_eq polled).trans (pollHandshaking_secondHandshake (waits.due_le expired) waits.hs)
  ⟨_, ⟨polled.step_eq executed, rfl, rfl, rfl, rfl, rfl⟩, waits.ctrl, rfl, rfl⟩

theorem step_editMode (polled : PolledAt now sendOk rest s) (waits : HandshakeAt 2 due s) (expired : due ≤ now) :
    ∃ t, HandshakeStep now rest [.tx (encodeCommand s.cfg editCommand)] s t ∧
      HandshakeAt 3 (now + s.cfg.initDelay) t :=
  have executed := (waits.execPoll_eq polled).trans (pollHandshaking_editMode (waits.due_le expired) waits.hs)
  ⟨_, ⟨polled.step_eq executed, rfl, rfl, rfl, rfl, rfl⟩, waits.ctrl, rfl, rfl⟩

theorem step_justReady (polled : PolledAt now sendOk rest s) (waits : HandshakeAt 3 due s) (expired : due ≤ now) :
    ∃ t, HandshakeStep now rest [.state ctrlReady] s t ∧ t.ctrlState = ctrlReady ∧
      t.answer = pollAnswer 3 false s.queue :=
  have executed := (waits.execPoll_eq polled).trans (pollHandshaking_justReady (waits.due_le expired) waits.hs)
  ⟨_, ⟨polled.step_eq executed, rfl, rfl, rfl, rfl, rfl⟩, rfl, response_pollResponse .justReady false s⟩

end

/-! ### The run -/

theorem run_succ_of_step {s t : State} (k : Nat) (h : step s = .next t) : core.run (k + 1) s = core.run k t := by
  have core_step : core.step s = .next t := h
  simp only [Host.Core.run, core_step]

/-- Settles O46: one step of the handshake per POLL, each due by the delay the one before loaded. -/
theorem handshakeCompletesInOrder : Obligations.HandshakeCompletesInOrder := by
  intro s t0 t1 t2 t3 b0 b1 b2 b3 down stream monotone gap1 gap2 gap3 room
  obtain ⟨s1, first, waits1⟩ := step_connects ⟨stream, monotone, by omega⟩ down
  obtain ⟨s2, second, waits2⟩ := step_secondHandshake (first.polledAt (by omega) (by omega)) waits1 gap1
  rw [first.cfg] at waits2
  obtain ⟨s3, third, waits3⟩ := step_editMode
    (second.polledAt (by omega) (by rw [first.cfg]; omega)) waits2 gap2
  rw [second.cfg, first.cfg] at waits3
  obtain ⟨s4, fourth, ready, answer⟩ := step_justReady
    (third.polledAt (by omega) (by rw [second.cfg, first.cfg]; omega)) waits3 gap3
  have queue3 : s3.queue = s.queue := third.queue.trans (second.queue.trans first.queue)
  refine ⟨s4, ?_, ready, fourth.queue.trans queue3, queue3 ▸ answer, ?_⟩
  · rw [run_succ_of_step 3 first.step_eq, run_succ_of_step 2 second.step_eq, run_succ_of_step 1 third.step_eq,
      run_succ_of_step 0 fourth.step_eq]
    rfl
  · simp [fourth.trace, third.trace, second.trace, first.trace, second.cfg, first.cfg]

end Sys2Proof.Machine
end

section
/-! The request word and the group as fields and as numbers, and what a request word decodes to (30_encoding.md R71 to
R76, R82, R83). -/

namespace Sys2Proof

/-! ### Fields as numbers (R71) -/

section
variable (w : RequestWord)

theorem toNat_reqOp : (reqOp w).toNat = w.toNat % 16 := by
  rw [reqOp, toNat_extract_eq]; omega

theorem toNat_reqRsv0 : (reqRsv0 w).toNat = w.toNat / 2 ^ 4 % 16 := toNat_extract_eq w 4 4

theorem toNat_reqLen : (reqLen w).toNat = w.toNat / 2 ^ 8 % 256 := toNat_extract_eq w 8 8

theorem toNat_reqVal : (reqVal w).toNat = w.toNat / 2 ^ 16 % 256 := toNat_extract_eq w 16 8

theorem toNat_reqRsv1 : (reqRsv1 w).toNat = w.toNat / 2 ^ 24 % 256 := toNat_extract_eq w 24 8

theorem toNat_reqAddr : (reqAddr w).toNat = w.toNat / 2 ^ 32 := by
  have := w.isLt
  rw [reqAddr, toNat_extract_eq]; omega

theorem toNat_reqRest : (reqRest w).toNat = w.toNat / 2 ^ 4 := by
  have := w.isLt
  rw [reqRest, toNat_extract_eq]; omega

/-- Bits 63:4 are the fields of R71 above OP. -/
theorem toNat_reqRest_eq_fields : (reqRest w).toNat =
    (reqRsv0 w).toNat + 2 ^ 4 * (reqLen w).toNat + 2 ^ 12 * (reqVal w).toNat + 2 ^ 20 * (reqRsv1 w).toNat +
      2 ^ 28 * (reqAddr w).toNat := by
  rw [toNat_reqRest, toNat_reqRsv0, toNat_reqLen, toNat_reqVal, toNat_reqRsv1, toNat_reqAddr]; omega

theorem toNat_eq_op_rest : w.toNat = 2 ^ 4 * (reqRest w).toNat + (reqOp w).toNat := by
  rw [toNat_reqRest, toNat_reqOp]; omega

end

/-! ### Words from their fields -/

section
variable (op : BitVec 4) (len : BitVec 8) (value : Byte) (addr : ParamAddr) (rest : BitVec 60)

theorem toNat_requestWord : (requestWord op len value addr).toNat =
    2 ^ 32 * addr.toNat + 2 ^ 16 * value.toNat + 2 ^ 8 * len.toNat + op.toNat := by
  simp only [requestWord, toNat_append_eq, BitVec.ofNat_eq_ofNat, BitVec.toNat_ofNat]; omega

theorem toNat_reservedWord : (reservedWord op rest).toNat = 2 ^ 4 * rest.toNat + op.toNat := by
  rw [reservedWord, toNat_append_eq, Nat.mul_comm]

@[simp] theorem reqOp_requestWord : reqOp (requestWord op len value addr) = op := by
  apply BitVec.eq_of_toNat_eq
  rw [toNat_reqOp, toNat_requestWord]; omega

@[simp] theorem reqRsv0_requestWord : reqRsv0 (requestWord op len value addr) = 0 := by
  apply BitVec.eq_of_toNat_eq
  rw [toNat_reqRsv0, toNat_requestWord, BitVec.ofNat_eq_ofNat, BitVec.toNat_zero]; omega

@[simp] theorem reqLen_requestWord : reqLen (requestWord op len value addr) = len := by
  apply BitVec.eq_of_toNat_eq
  rw [toNat_reqLen, toNat_requestWord]; omega

@[simp] theorem reqVal_requestWord : reqVal (requestWord op len value addr) = value := by
  apply BitVec.eq_of_toNat_eq
  rw [toNat_reqVal, toNat_requestWord]; omega

@[simp] theorem reqRsv1_requestWord : reqRsv1 (requestWord op len value addr) = 0 := by
  apply BitVec.eq_of_toNat_eq
  rw [toNat_reqRsv1, toNat_requestWord, BitVec.ofNat_eq_ofNat, BitVec.toNat_zero]; omega

@[simp] theorem reqAddr_requestWord : reqAddr (requestWord op len value addr) = addr := by
  apply BitVec.eq_of_toNat_eq
  rw [toNat_reqAddr, toNat_requestWord]; omega

@[simp] theorem reqOp_reservedWord : reqOp (reservedWord op rest) = op := by
  apply BitVec.eq_of_toNat_eq
  rw [toNat_reqOp, toNat_reservedWord]; omega

@[simp] theorem reqRest_reservedWord : reqRest (reservedWord op rest) = rest := by
  apply BitVec.eq_of_toNat_eq
  rw [toNat_reqRest, toNat_reservedWord]; omega

end

section
variable {w : RequestWord}

theorem reservedWord_op_rest (w : RequestWord) : reservedWord (reqOp w) (reqRest w) = w := by
  apply BitVec.eq_of_toNat_eq
  rw [toNat_reservedWord, ← toNat_eq_op_rest]

/-- A word with RSV0 and RSV1 zero is the word of its other fields (R71, R74). -/
theorem requestWord_fields (rsv0 : reqRsv0 w = 0) (rsv1 : reqRsv1 w = 0) :
    requestWord (reqOp w) (reqLen w) (reqVal w) (reqAddr w) = w := by
  apply BitVec.eq_of_toNat_eq
  have rest := toNat_reqRest_eq_fields w
  have word := toNat_eq_op_rest w
  simp only [rsv0, rsv1, BitVec.ofNat_eq_ofNat, BitVec.toNat_zero] at rest
  rw [toNat_requestWord]; omega

/-- Bits 63:4 are zero exactly if every field above OP is (R74). -/
theorem reqRest_eq_zero_iff : reqRest w = 0 ↔
    reqRsv0 w = 0 ∧ reqRsv1 w = 0 ∧ reqLen w = 0 ∧ reqVal w = 0 ∧ reqAddr w = 0 := by
  have rest := toNat_reqRest_eq_fields w
  simp only [← BitVec.toNat_inj, BitVec.ofNat_eq_ofNat, BitVec.toNat_zero]
  omega

end

/-! ### The group (R82, R83) -/

@[simp] theorem groupCin_append (cable cin : BitVec 4) : groupCin (cable ++ cin) = cin := by
  apply BitVec.eq_of_toNat_eq
  rw [groupCin, toNat_extract_eq, toNat_append_eq]; omega

@[simp] theorem groupCable_append (cable cin : BitVec 4) : groupCable (cable ++ cin) = cable := by
  apply BitVec.eq_of_toNat_eq
  rw [groupCable, toNat_extract_eq, toNat_append_eq]; omega

theorem groupCable_append_groupCin (b0 : Byte) : groupCable b0 ++ groupCin b0 = b0 := by
  apply BitVec.eq_of_toNat_eq
  have := b0.isLt
  rw [toNat_append_eq, groupCable, groupCin, toNat_extract_eq, toNat_extract_eq]; omega

/-- Every group is the encoding of the instruction it is read as (R83). -/
theorem encode_decodeGroup (cfg : Config) (b0 b1 b2 b3 : Byte) :
    encode cfg (decodeGroup b0 b1 b2 b3) = .group b0 b1 b2 b3 := by
  have group : encode cfg (decodeGroup b0 b1 b2 b3) = groupOf (groupCin b0) (groupCable b0) b1 b2 b3 := by
    unfold decodeGroup
    generalize groupCin b0 = cin
    obtain ⟨n, hn⟩ := cin
    interval_cases n <;> rfl
  rw [group, groupOf, groupCable_append_groupCin]

/-! ### What a request word decodes to, by OP (R73, R75) -/

section
variable {w : RequestWord}

theorem decodeRequest_nop (op : reqOp w = 0) : decodeRequest w = decodeBare w .nop := by
  rw [decodeRequest, op]; rfl

theorem decodeRequest_write (op : reqOp w = 1) : decodeRequest w = decodeWrite w := by
  rw [decodeRequest, op]; rfl

theorem decodeRequest_read (op : reqOp w = 2) : decodeRequest w = decodeRead w := by
  rw [decodeRequest, op]; rfl

theorem decodeRequest_poll (op : reqOp w = 3) : decodeRequest w = decodeBare w .poll := by
  rw [decodeRequest, op]; rfl

theorem decodeRequest_queryEmpty (op : reqOp w = 4) : decodeRequest w = decodeBare w .queryEmpty := by
  rw [decodeRequest, op]; rfl

/-- The reserved instructions with these bits 63:4, by their OP from 0x5 (R75). -/
def reservedInstrs (rest : BitVec 60) : List Instr :=
  [.reserved5 rest, .reserved6 rest, .reserved7 rest, .reserved8 rest, .reserved9 rest, .reservedA rest,
    .reservedB rest, .reservedC rest, .reservedD rest, .reservedE rest, .reservedF rest]

theorem decodeRequest_reserved (reserved : 5 ≤ (reqOp w).toNat) :
    ∃ i ∈ reservedInstrs (reqRest w), decodeRequest w = .ok i ∧
      ∀ cfg, encode cfg i = .request (reservedWord (reqOp w) (reqRest w)) := by
  unfold decodeRequest
  generalize reqOp w = op at reserved
  obtain ⟨n, hn⟩ := op
  change 5 ≤ n at reserved
  interval_cases n <;> exact ⟨_, by simp [reservedInstrs], rfl, fun _ => rfl⟩

theorem op_cases (op : BitVec 4) : op = 0 ∨ op = 1 ∨ op = 2 ∨ op = 3 ∨ op = 4 ∨ 5 ≤ op.toNat := by
  revert op; decide

theorem reqRest_of_decodeBare {i j : Instr} (h : decodeBare w i = .ok j) : reqRest w = 0 := by
  unfold decodeBare at h
  split at h
  · next rest => exact rest
  · cases h

end

end Sys2Proof
end

section
/-! The outbound frame by position, and the round trip of the three formats (30_encoding.md R71 to R83,
40_frame_codec.md R100 to R104). -/

namespace Sys2Proof

/-! ### The frame by position (R77) -/

@[simp] theorem addrOfBytes_addrBytes (addr : ParamAddr) :
    addrOfBytes (addr.extractLsb' 24 8) (addr.extractLsb' 16 8) (addr.extractLsb' 8 8) (addr.extractLsb' 0 8) =
      addr := by
  apply BitVec.eq_of_toNat_eq
  have := addr.isLt
  simp only [addrOfBytes, toNat_append_eq, toNat_extract_eq]; omega

section
variable (cfg : Config) (action : Byte) (addr : ParamAddr) (len : Nat) (value : Byte)

/-- START, identifier and action are eight bytes; then come the window, the checksum and END (R77, R104). -/
theorem frameOf_eq_append : frameOf cfg action addr len value =
    (startByte :: cfg.wireId.bytes ++ [action]) ++ (frameWindow addr len value ++
      [checksumOf (frameWindow addr len value), endByte]) := by
  simp [frameOf]

theorem frameOf_drop_eight : (frameOf cfg action addr len value).drop 8 =
    frameWindow addr len value ++ [checksumOf (frameWindow addr len value), endByte] := by
  rw [frameOf_eq_append]; rfl

theorem frameOf_drop_twelve : (frameOf cfg action addr len value).drop 12 =
    payloadBytes len value ++ [checksumOf (frameWindow addr len value), endByte] := by
  rw [frameOf_eq_append]; rfl

theorem frameOf_action : (frameOf cfg action addr len value)[7]? = some action := by
  rw [frameOf_eq_append]; rfl

theorem frameOf_addr :
    (frameOf cfg action addr len value)[8]? = some (addr.extractLsb' 24 8) ∧
    (frameOf cfg action addr len value)[9]? = some (addr.extractLsb' 16 8) ∧
    (frameOf cfg action addr len value)[10]? = some (addr.extractLsb' 8 8) ∧
    (frameOf cfg action addr len value)[11]? = some (addr.extractLsb' 0 8) := by
  rw [frameOf_eq_append]; exact ⟨rfl, rfl, rfl, rfl⟩

variable {len}

theorem length_payloadBytes (pos : 1 ≤ len) : (payloadBytes len value).length = len := by
  simp [payloadBytes]; omega

theorem length_frameWindow (pos : 1 ≤ len) : (frameWindow addr len value).length = 4 + len := by
  rw [frameWindow, List.length_append, length_payloadBytes value pos]; rfl

theorem length_frameOf (pos : 1 ≤ len) : (frameOf cfg action addr len value).length = 14 + len := by
  rw [frameOf_eq_append]; simp [WireId.bytes, length_frameWindow addr value pos]; omega

theorem frameOf_payload (pos : 1 ≤ len) :
    ((frameOf cfg action addr len value).drop 12).take len = payloadBytes len value := by
  rw [frameOf_drop_twelve, List.take_left' (length_payloadBytes value pos)]

theorem frameOf_window (pos : 1 ≤ len) :
    ((frameOf cfg action addr len value).drop 8).take (4 + len) = frameWindow addr len value := by
  rw [frameOf_drop_eight, List.take_left' (length_frameWindow addr value pos)]

/-- Position `12 + k` is the payload's `k`th byte, or the checksum or END behind it. -/
theorem frameOf_getElem?_twelve_add (k : Nat) : (frameOf cfg action addr len value)[12 + k]? =
    (payloadBytes len value ++ [checksumOf (frameWindow addr len value), endByte])[k]? := by
  rw [← frameOf_drop_twelve, List.getElem?_drop]

theorem frameOf_value (pos : 1 ≤ len) : (frameOf cfg action addr len value)[11 + len]? = some value := by
  obtain ⟨k, rfl⟩ : ∃ k, len = k + 1 := ⟨len - 1, by omega⟩
  rw [show 11 + (k + 1) = 12 + k by omega, frameOf_getElem?_twelve_add]
  simp [payloadBytes]

theorem frameOf_checksum (pos : 1 ≤ len) : (frameOf cfg action addr len value)[12 + len]? =
    some (checksumOf (frameWindow addr len value)) := by
  rw [frameOf_getElem?_twelve_add, List.getElem?_append_right (length_payloadBytes value pos).le]
  simp [length_payloadBytes value pos]

theorem frameOf_end (pos : 1 ≤ len) : (frameOf cfg action addr len value)[13 + len]? = some endByte := by
  have le : (payloadBytes len value).length ≤ 1 + len := by rw [length_payloadBytes value pos]; omega
  rw [show 13 + len = 12 + (1 + len) by omega, frameOf_getElem?_twelve_add, List.getElem?_append_right le]
  simp [length_payloadBytes value pos]

end

/-! ### Frames decode to their instruction -/

/-- The HANDSHAKE literal has no action byte at position 7 (R80). -/
theorem frameOf_ne_handshakeFrame {cfg : Config} {action : Byte} {addr : ParamAddr} {len : Nat} {value : Byte}
    (h : action ≠ 0x03) : frameOf cfg action addr len value ≠ handshakeFrame := by
  intro eq
  have seven := frameOf_action cfg action addr len value
  rw [eq] at seven
  exact h (Option.some.inj seven).symm

section
variable (cfg : Config) (addr : ParamAddr) (value : Byte)

/-- What a frame's positions name (R77, R79, R81). -/
theorem frameCandidate_frameOf {action : Byte} {len : Nat} (pos : 1 ≤ len) (notHandshake : action ≠ 0x03) :
    frameCandidate (frameOf cfg action addr len value) =
      if action = actWrite then some (writeFrameOf addr value (BitVec.ofNat 8 len))
      else if action = actRead then some (.readFrame addr value) else none := by
  obtain ⟨h8, h9, h10, h11⟩ := frameOf_addr cfg action addr len value
  simp only [frameCandidate, if_neg (frameOf_ne_handshakeFrame notHandshake), List.getD_eq_getElem?_getD,
    length_frameOf _ _ _ _ pos, Nat.add_sub_cancel_left, h8, h9, h10, h11, frameOf_action,
    frameOf_value _ _ _ _ pos, Option.getD_some, addrOfBytes_addrBytes]

theorem frameCandidate_writeFrame {len : BitVec 8} (pos : 1 ≤ len.toNat) :
    frameCandidate (frameOf cfg actWrite addr len.toNat value) = some (writeFrameOf addr value len) := by
  rw [frameCandidate_frameOf cfg addr value pos (by decide), if_pos rfl, BitVec.ofNat_toNat, BitVec.setWidth_eq]

theorem frameCandidate_readFrame : frameCandidate (frameOf cfg actRead addr readLen.toNat value) =
    some (.readFrame addr value) :=
  frameCandidate_frameOf cfg addr value (by decide) (by decide)

variable {cfg addr value}

theorem decodeFrame_of_candidate {bytes : Frame} {i : Instr} (candidate : frameCandidate bytes = some i)
    (wellFormed : WellFormed cfg i = true) (same : frameBytes cfg i = some bytes) :
    decodeFrame cfg bytes = .ok i := by
  simp [decodeFrame, candidate, wellFormed, same]

theorem wellFormed_writeFrame {len : BitVec 8} (h : WellFormed cfg (.writeFrame addr value len) = true) :
    LegalLen cfg len ∧ ¬IsEdit addr value len := by
  simpa only [WellFormed, Bool.and_eq_true, Bool.not_eq_true', decide_eq_true_eq, decide_eq_false_iff_not] using h

theorem decodeFrame_writeFrame {len : BitVec 8} (h : WellFormed cfg (.writeFrame addr value len) = true) :
    decodeFrame cfg (frameOf cfg actWrite addr len.toNat value) = .ok (.writeFrame addr value len) := by
  obtain ⟨⟨pos, -⟩, notEdit⟩ := wellFormed_writeFrame h
  have candidate := frameCandidate_writeFrame cfg addr value pos
  rw [writeFrameOf, if_neg notEdit] at candidate
  exact decodeFrame_of_candidate candidate h rfl

theorem decodeFrame_readFrame (cfg : Config) (addr : ParamAddr) (probe : Byte) :
    decodeFrame cfg (frameOf cfg actRead addr readLen.toNat probe) = .ok (.readFrame addr probe) :=
  decodeFrame_of_candidate (frameCandidate_readFrame cfg addr probe) rfl rfl

theorem decodeFrame_editFrame (cfg : Config) :
    decodeFrame cfg (frameOf cfg actWrite editAddr 1 editValue) = .ok .editFrame :=
  decodeFrame_of_candidate (frameCandidate_writeFrame cfg editAddr editValue (len := 1) (by decide)) rfl rfl

theorem decodeFrame_handshake (cfg : Config) : decodeFrame cfg handshakeFrame = .ok .handshake :=
  decodeFrame_of_candidate rfl rfl rfl

theorem encode_of_frameBytes {i : Instr} {bytes : Frame} (h : frameBytes cfg i = some bytes) :
    encode cfg i = .frame bytes := by
  cases i with
  | writeFrame | readFrame | handshake | editFrame => cases h; rfl
  | _ => cases h

end

/-! ### Request words decode to their instruction -/

theorem decodeRequest_requestWord_write (addr : ParamAddr) (value : Byte) (len : BitVec 8) :
    decodeRequest (requestWord 0x1 len value addr) = .ok (.write addr value len) := by
  rw [decodeRequest_write (reqOp_requestWord ..)]; simp [decodeWrite]

theorem decodeRequest_requestWord_read (addr : ParamAddr) (probe : Byte) :
    decodeRequest (requestWord 0x2 0 probe addr) = .ok (.read addr probe) := by
  rw [decodeRequest_read (reqOp_requestWord ..)]; simp [decodeRead]

section
variable {cfg : Config} {w : RequestWord} {i : Instr}

theorem requestWord_of_decodeBare {j : Instr} {op : BitVec 4} (hop : reqOp w = op) (h : decodeBare w j = .ok i) :
    i = j ∧ requestWord op 0 0 0 = w := by
  obtain ⟨rsv0, rsv1, len, value, addr⟩ := reqRest_eq_zero_iff.mp (reqRest_of_decodeBare h)
  have word := requestWord_fields rsv0 rsv1
  rw [hop, len, value, addr] at word
  exact ⟨decodeBare_eq_ok h, word⟩

theorem encode_of_decodeWrite (op : reqOp w = 1) (h : decodeWrite w = .ok i) : encode cfg i = .request w := by
  unfold decodeWrite at h
  split at h
  · next rsv =>
    cases h
    exact congrArg Encoded.request (op ▸ requestWord_fields rsv.1 rsv.2)
  · cases h

theorem encode_of_decodeRead (op : reqOp w = 2) (h : decodeRead w = .ok i) : encode cfg i = .request w := by
  unfold decodeRead at h
  split at h
  · next rsv =>
    cases h
    exact congrArg Encoded.request (op ▸ rsv.2.2 ▸ requestWord_fields rsv.1 rsv.2.1)
  · cases h

/-- No bit of a request word is dropped (R71, R74). -/
theorem encode_of_decodeRequest (h : decodeRequest w = .ok i) : encode cfg i = .request w := by
  rcases op_cases (reqOp w) with op | op | op | op | op | reserved
  · obtain ⟨rfl, word⟩ := requestWord_of_decodeBare op (decodeRequest_nop op ▸ h)
    exact congrArg Encoded.request word
  · exact encode_of_decodeWrite op (decodeRequest_write op ▸ h)
  · exact encode_of_decodeRead op (decodeRequest_read op ▸ h)
  · obtain ⟨rfl, word⟩ := requestWord_of_decodeBare op (decodeRequest_poll op ▸ h)
    exact congrArg Encoded.request word
  · obtain ⟨rfl, word⟩ := requestWord_of_decodeBare op (decodeRequest_queryEmpty op ▸ h)
    exact congrArg Encoded.request word
  · obtain ⟨j, -, decoded, encoded⟩ := decodeRequest_reserved reserved
    cases decoded.symm.trans h
    rw [encoded, reservedWord_op_rest]

end

/-! ### All formats -/

/-- Settles O1: each format's fields are read back, and a frame's positions name its instruction. -/
theorem decodeEncodeRoundTrip : Obligations.DecodeEncodeRoundTrip := by
  intro cfg i wellFormed
  cases i with
  | nop | poll | queryEmpty => rfl
  | write addr value len => exact decodeRequest_requestWord_write addr value len
  | read addr probe => exact decodeRequest_requestWord_read addr probe
  | reserved5 | reserved6 | reserved7 | reserved8 | reserved9 | reservedA | reservedB | reservedC | reservedD
  | reservedE | reservedF => simp [encode, decode, decodeRequest]
  | writeFrame addr value len => exact decodeFrame_writeFrame wellFormed
  | readFrame addr probe => exact decodeFrame_readFrame cfg addr probe
  | handshake => exact decodeFrame_handshake cfg
  | editFrame => exact decodeFrame_editFrame cfg
  | _ => simp [encode, decode, groupOf, decodeGroup]

/-- Settles O2: the request word is its fields, a decoded frame has its instruction's bytes, and a group is its CIN,
cable number and data bytes. -/
theorem decodedEncodingIsUnique : Obligations.DecodedEncodingIsUnique := by
  intro cfg e i h
  cases e with
  | request w => exact encode_of_decodeRequest h
  | frame bytes => exact encode_of_frameBytes (decodeFrame_eq_ok h).2
  | group b0 b1 b2 b3 => cases h; exact encode_decodeGroup cfg b0 b1 b2 b3

end Sys2Proof
end

section
/-! Request words: their operands as numbers, and the checks of R76 in their order (30_encoding.md R71 to R76,
60_exceptions.md R191, R192). -/

namespace Sys2Proof

/-! ### Operands (R71, R74) -/

section
variable {w : RequestWord}

theorem decodeRequest_eq_write (op : reqOp w = 1) (rsv0 : reqRsv0 w = 0) (rsv1 : reqRsv1 w = 0) :
    decodeRequest w = .ok (.write (reqAddr w) (reqVal w) (reqLen w)) := by
  rw [decodeRequest_write op, decodeWrite, if_pos ⟨rsv0, rsv1⟩]

theorem decodeRequest_eq_read (op : reqOp w = 2) (rsv0 : reqRsv0 w = 0) (rsv1 : reqRsv1 w = 0)
    (len : reqLen w = 0) : decodeRequest w = .ok (.read (reqAddr w) (reqVal w)) := by
  rw [decodeRequest_read op, decodeRead, if_pos ⟨rsv0, rsv1, len⟩]

end

/-- Settles O3: a field is zero, or the OP, as its number is. -/
theorem requestOperandFields : Obligations.RequestOperandFields := by
  intro w
  have op := toNat_reqOp w
  have rsv0 := toNat_reqRsv0 w
  have rsv1 := toNat_reqRsv1 w
  have len := toNat_reqLen w
  refine ⟨fun low high => ⟨reqAddr w, reqVal w, reqLen w, decodeRequest_eq_write ?_ ?_ ?_, toNat_reqAddr w,
    toNat_reqVal w, len⟩, fun low high => ⟨reqAddr w, reqVal w, decodeRequest_eq_read ?_ ?_ ?_ ?_, toNat_reqAddr w,
    toNat_reqVal w⟩⟩
  all_goals
    apply BitVec.eq_of_toNat_eq
    simp only [BitVec.ofNat_eq_ofNat, BitVec.toNat_ofNat]
    omega

/-- Settles O4: the words of V-H1 to V-H11 and V-D8 are evaluated. -/
theorem specWordsDecode : Obligations.SpecWordsDecode := by
  unfold Obligations.SpecWordsDecode
  decide

end Sys2Proof

namespace Sys2Proof.Machine

/-! ### Refusals of one instruction -/

theorem refuse_eq (r : Reason) (s : State) :
    refuse r s = { s with refused := markAfter r s, answer := .refused r } := by
  rw [refuse, firstReason_eq_markAfter]

theorem exec_of_mem_reservedInstrs {rest : BitVec 60} {i : Instr} (mem : i ∈ reservedInstrs rest) (s : State) :
    exec i s = .next (refuse .badOpcode s) := by
  unfold reservedInstrs at mem
  fin_cases mem <;> rfl

/-- Settles O6: each reserved instruction is the refusal itself. -/
theorem reservedOpcodesRefused : Obligations.ReservedOpcodesRefused := by
  intro s rest i mem
  rw [← refuse_eq]
  exact exec_of_mem_reservedInstrs mem s

theorem execWrite_of_illegal {s : State} {len : BitVec 8} (illegal : ¬LegalLen s.cfg len) (addr : ParamAddr)
    (value : Byte) : execWrite addr value len s = .next (refuse .badLength s) :=
  if_neg (lengthOk_iff.not.mpr illegal)

/-- Settles O24: such a length is not in 1..MAX_PAYLOAD. -/
theorem writeBadLengthRefused : Obligations.WriteBadLengthRefused := by
  intro s addr value len bad
  have illegal : ¬LegalLen s.cfg len := fun ⟨low, high⟩ => by omega
  rw [← refuse_eq]
  exact execWrite_of_illegal illegal addr value

/-! ### R76's checks and the decoder -/

section
variable {cfg : Config} {w : RequestWord}

/-- What R76's checks say of a request word, by how it is read: refused by its OP, by the decoder, or by its
length, or read as a well-formed instruction. -/
inductive VerdictCase (cfg : Config) (w : RequestWord) : Option Reason → Prop where
  | badOpcode (i : Instr) (rest : BitVec 60) (mem : i ∈ reservedInstrs rest) (decoded : decodeRequest w = .ok i) :
      VerdictCase cfg w (some .badOpcode)
  | reservedBits (error : decodeRequest w = .error .reservedBits) : VerdictCase cfg w (some .reservedBits)
  | badLength (addr : ParamAddr) (value : Byte) (len : BitVec 8)
      (decoded : decodeRequest w = .ok (.write addr value len)) (illegal : ¬LegalLen cfg len) :
      VerdictCase cfg w (some .badLength)
  | accepted (i : Instr) (decoded : decodeRequest w = .ok i) (wellFormed : WellFormed cfg i = true) :
      VerdictCase cfg w none

theorem requestVerdict_reserved (reserved : 5 ≤ (reqOp w).toNat) : requestVerdict cfg w = some .badOpcode := by
  rw [toNat_reqOp] at reserved
  exact if_pos reserved

/-- R76's checks on the fields themselves. -/
theorem requestVerdict_eq (cfg : Config) (w : RequestWord) : requestVerdict cfg w =
    if 5 ≤ (reqOp w).toNat then some .badOpcode
    else if reqRsv0 w ≠ 0 ∨ reqRsv1 w ≠ 0 then some .reservedBits
    else if (reqOp w = 0 ∨ reqOp w = 3 ∨ reqOp w = 4) ∧ (reqLen w ≠ 0 ∨ reqVal w ≠ 0 ∨ reqAddr w ≠ 0) then
      some .reservedBits
    else if reqOp w = 2 ∧ reqLen w ≠ 0 then some .reservedBits
    else if reqOp w = 1 ∧ ((reqLen w).toNat = 0 ∨ cfg.maxPayload < (reqLen w).toNat) then some .badLength
    else none := by
  simp only [requestVerdict, ← toNat_reqOp, ← toNat_reqRsv0, ← toNat_reqLen, ← toNat_reqVal, ← toNat_reqRsv1,
    ← toNat_reqAddr, ← BitVec.toNat_inj, ne_eq, BitVec.ofNat_eq_ofNat, BitVec.toNat_ofNat]

/-! The verdict on each OP that is not reserved, said as its decoder says it. -/

theorem requestVerdict_bare (op : reqOp w = 0 ∨ reqOp w = 3 ∨ reqOp w = 4) :
    requestVerdict cfg w = if reqRest w = 0 then none else some .reservedBits := by
  simp only [requestVerdict_eq, reqRest_eq_zero_iff]
  grind

theorem requestVerdict_write (op : reqOp w = 1) : requestVerdict cfg w =
    if reqRsv0 w = 0 ∧ reqRsv1 w = 0 then if LegalLen cfg (reqLen w) then none else some .badLength
    else some .reservedBits := by
  rw [requestVerdict_eq]
  grind

theorem requestVerdict_read (op : reqOp w = 2) : requestVerdict cfg w =
    if reqRsv0 w = 0 ∧ reqRsv1 w = 0 ∧ reqLen w = 0 then none else some .reservedBits := by
  rw [requestVerdict_eq]
  grind

theorem verdictCase_bare {i : Instr} (op : reqOp w = 0 ∨ reqOp w = 3 ∨ reqOp w = 4)
    (reads : decodeRequest w = decodeBare w i) (wellFormed : WellFormed cfg i = true) :
    VerdictCase cfg w (requestVerdict cfg w) := by
  rw [requestVerdict_bare op]
  rw [decodeBare] at reads
  split
  · next rest => exact .accepted i (by rw [reads, if_pos rest]) wellFormed
  · next rest => exact .reservedBits (by rw [reads, if_neg rest])

theorem verdictCase_write (op : reqOp w = 1) : VerdictCase cfg w (requestVerdict cfg w) := by
  rw [requestVerdict_write op]
  split
  · next rsv =>
    have decoded := decodeRequest_eq_write op rsv.1 rsv.2
    split
    · next legal => exact .accepted _ decoded (decide_eq_true legal)
    · next illegal => exact .badLength _ _ _ decoded illegal
  · next rsv => exact .reservedBits (by rw [decodeRequest_write op, decodeWrite, if_neg rsv])

theorem verdictCase_read (op : reqOp w = 2) : VerdictCase cfg w (requestVerdict cfg w) := by
  rw [requestVerdict_read op]
  split
  · next rsv => exact .accepted _ (decodeRequest_eq_read op rsv.1 rsv.2.1 rsv.2.2) rfl
  · next rsv => exact .reservedBits (by rw [decodeRequest_read op, decodeRead, if_neg rsv])

theorem verdictCase_reserved (reserved : 5 ≤ (reqOp w).toNat) : VerdictCase cfg w (requestVerdict cfg w) := by
  rw [requestVerdict_reserved reserved]
  obtain ⟨i, mem, decoded, -⟩ := decodeRequest_reserved reserved
  exact .badOpcode i _ mem decoded

/-- R76's checks and the decoder agree on every word. -/
theorem requestVerdict_cases (cfg : Config) (w : RequestWord) : VerdictCase cfg w (requestVerdict cfg w) := by
  rcases op_cases (reqOp w) with op | op | op | op | op | reserved
  · exact verdictCase_bare (.inl op) (decodeRequest_nop op) rfl
  · exact verdictCase_write op
  · exact verdictCase_read op
  · exact verdictCase_bare (.inr (.inl op)) (decodeRequest_poll op) rfl
  · exact verdictCase_bare (.inr (.inr op)) (decodeRequest_queryEmpty op) rfl
  · exact verdictCase_reserved reserved

end

/-! ### The step of a refused request -/

section
variable {s : State} {w : RequestWord} {inputs : Inputs} {arrivals : List Packet} {rest : List Stimulus}
  (stream : s.stream = .operation (.request w) inputs arrivals :: rest)
include stream

/-- An instruction that refuses leaves what the refusal leaves: the buffers were empty already (R32, R197). -/
theorem step_of_refusing {i : Instr} {r : Reason} (decoded : decodeRequest w = .ok i)
    (refuses : exec i (present inputs arrivals rest s) = .next (refuse r (present inputs arrivals rest s))) :
    step s = .next (refuse r (present inputs arrivals rest s)) :=
  step_of_executed stream decoded refuses

theorem step_of_requestVerdict {r : Reason} (verdict : requestVerdict s.cfg w = some r) :
    step s = .next (refuse r (present inputs arrivals rest s)) := by
  cases verdict ▸ requestVerdict_cases s.cfg w with
  | badOpcode i _ mem decoded => exact step_of_refusing stream decoded (exec_of_mem_reservedInstrs mem _)
  | reservedBits error => exact step_of_rejected stream error
  | badLength addr value len decoded illegal =>
    exact step_of_refusing stream decoded
      (execWrite_of_illegal (s := present inputs arrivals rest s) illegal addr value)

end

/-- Settles O5: a failed check refuses the request in the state the operation starts in. -/
theorem requestChecksInOrder : Obligations.RequestChecksInOrder := by
  intro s w inputs arrivals rest stream
  refine ⟨fun r verdict => ⟨_, step_of_requestVerdict stream verdict, rfl, ?_, ⟨rfl, rfl, rfl, rfl, rfl⟩, rfl, rfl⟩,
    fun verdict => ?_⟩
  · exact firstReason_eq_markAfter r s
  · cases verdict ▸ requestVerdict_cases s.cfg w with
    | accepted i decoded wellFormed => exact ⟨i, decoded, wellFormed⟩

end Sys2Proof.Machine
end

section
/-! The response word's layout, and Q_EMPTY after every operation (30_encoding.md R72, 41_command_queue.md R137). -/

namespace Sys2Proof.Machine

/-! ### The word's bits -/

theorem resultCode_le (r : PollResult) : (resultCode r).toNat ≤ 4 := by
  cases r <;> decide

/-- Settles O7: each field has its own bit positions, and no field reaches the reserved ones. -/
theorem responseWordLayout : Obligations.ResponseWordLayout := by
  intro r
  have result := resultCode_le r.result
  have value := r.rxValue.isLt
  have txErr := r.txErr.toNat_le
  have qEmpty := r.qEmpty.toNat_le
  have evicted := r.evicted.toNat_le
  refine ⟨responseWord_eq_answerWord r, result, ?_, ?_⟩
  all_goals
    apply BitVec.eq_of_toNat_eq
    rw [responseWord_eq_answerWord, toNat_extract_eq, answerWord, BitVec.toNat_ofNat, BitVec.ofNat_eq_ofNat, BitVec.toNat_zero]
    omega

theorem responseWord_getLsbD_four (r : Response) : (responseWord r).getLsbD 4 = r.qEmpty := by
  simp only [responseWord, BitVec.getLsbD_append]
  simp

/-! ### Q_EMPTY -/

/-- If the state's answer is a response, its Q_EMPTY tells the state's queue (R137). -/
def TellsQueue (s : State) : Prop := ∀ w, s.answer = .response w → w.getLsbD 4 = decide (s.queue = [])

section
variable {s t : State}

theorem tellsQueue_respond {r : Response} (h : r.qEmpty = isEmpty s) : TellsQueue (respond r s) := by
  rintro _ ⟨⟩
  rw [responseWord_getLsbD_four, h, isEmpty_eq]; rfl

theorem tellsQueue_complete {r : Response} (h : r.qEmpty = isEmpty s) : TellsQueue (complete r s) :=
  tellsQueue_respond (s := { s with lastNow := some s.inputs.now }) h

theorem tellsQueue_refuse (r : Reason) (s : State) : TellsQueue (refuse r s) := nofun

/-- The queue an enqueue leaves is not empty (R131). -/
theorem tellsQueue_enqueueAnswer (c : Command) (s : State) : TellsQueue (enqueueAnswer c s) := by
  refine tellsQueue_respond ?_
  rw [isEmpty_eq, enqueue_eq]; simp [enqueueResponse]

theorem DispatchCase.tellsQueue (case : DispatchCase s t) : TellsQueue t := by
  cases case with
  | send _ _ _ _ _ eq => subst eq; exact tellsQueue_complete rfl
  | idle _ eq => subst eq; exact tellsQueue_complete rfl

/-- Every `resp` of R154 reads Q_EMPTY after the POLL's effects. -/
theorem PollCase.tellsQueue (case : PollCase s t) : TellsQueue t := by
  cases case with
  | badTime r _ eq => subst eq; exact tellsQueue_refuse r s
  | disconnected _ _ eq => subst eq; exact tellsQueue_complete rfl
  | connect _ _ _ eq => subst eq; exact tellsQueue_complete rfl
  | wait _ _ _ _ eq => subst eq; exact tellsQueue_complete rfl
  | secondHandshake _ _ _ _ _ eq => subst eq; exact tellsQueue_complete rfl
  | editMode _ _ _ _ _ eq => subst eq; exact tellsQueue_complete rfl
  | justReady _ _ _ _ _ eq => subst eq; exact tellsQueue_complete rfl
  | rxTooLong _ _ _ _ _ _ eq => subst eq; exact tellsQueue_refuse _ _
  | receive _ _ _ _ _ _ _ _ _ eq => subst eq; exact tellsQueue_complete rfl
  | discard _ _ _ _ _ _ _ dispatch => exact dispatch.tellsQueue
  | noPacket _ _ _ _ dispatch => exact dispatch.tellsQueue

/-- An operation starts without an answer, so a codec instruction leaves no response (R32). -/
theorem ExecCase.tellsQueue {i : Instr} (case : ExecCase i s t) (unanswered : s.answer = .none) : TellsQueue t := by
  cases case with
  | poll _ case => exact case.tellsQueue
  | enqueue c _ eq => subst eq; exact tellsQueue_enqueueAnswer c s
  | query _ eq => subst eq; exact tellsQueue_respond rfl
  | refusal r _ _ eq => subst eq; exact tellsQueue_refuse r s
  | frame f _ eq =>
    subst eq
    exact fun _ answer => Answer.noConfusion (unanswered.symm.trans answer)
  | group _ _ _ _ _ _ _ eq =>
    subst eq
    exact fun _ answer => Answer.noConfusion (unanswered.symm.trans answer)

end

/-- Settles O19: the state after the operation tells its queue, and `finish` makes no response of its own. -/
theorem qEmptyBitTellsQueue : Obligations.QEmptyBitTellsQueue := by
  intro s t w busy h answer
  cases step_cases h with
  | idle stream _ => exact absurd stream busy
  | reset _ _ eq => subst eq; cases answer
  | rejected _ _ _ _ _ _ eq => subst eq; cases answer
  | run code _ _ _ _ _ _ _ case eq =>
    subst eq
    exact case.tellsQueue rfl w ((operationAnswer_eq_response _ code).mp answer)

end Sys2Proof.Machine
end

section
/-! The Frame Codec: the encoded frame by position, the frame and group instructions, and which packets decode
(30_encoding.md R77 to R84, 40_frame_codec.md R100 to R120). -/

namespace Sys2Proof.Machine

/-! ### Outbound frames -/

theorem toNat_checksumOf (window : List Byte) :
    (checksumOf window).toNat = (128 - (window.map BitVec.toNat).sum % 128) % 128 := by
  rw [checksumOf, byteSum, BitVec.toNat_ofNat]; omega

/-- Settles O47: the positions of `frameOf`. -/
theorem encodedFrameLayout : Obligations.EncodedFrameLayout := by
  intro cfg c pos f L
  obtain ⟨h8, h9, h10, h11⟩ := frameOf_addr cfg (actionByte c.op) c.addr c.len.toNat c.value
  refine ⟨length_frameOf _ _ _ _ pos, rfl, rfl, ?_, h8, h9, h10, h11, frameOf_payload _ _ _ _ pos,
    ⟨_, frameOf_checksum _ _ _ _ pos, ?_⟩, frameOf_end _ _ _ _ pos⟩
  · refine (frameOf_action ..).trans (congrArg some ?_)
    cases c.op <;> rfl
  · rw [toNat_checksumOf, show (f.drop 8).take (4 + L) = _ from frameOf_window _ _ _ _ pos]

theorem composeFrame_of_illegal {c : Command} {s : State} (illegal : ¬LegalLen s.cfg c.len) :
    composeFrame c s = .fault .illegalLength :=
  if_neg (lengthOk_iff.not.mpr illegal)

theorem legalLen_readLen_iff {cfg : Config} : LegalLen cfg readLen ↔ 4 ≤ cfg.maxPayload :=
  and_iff_right (by decide)

theorem legalLen_one_iff {cfg : Config} : LegalLen cfg 1 ↔ 1 ≤ cfg.maxPayload :=
  and_iff_right (by decide)

/-- Settles O50: each frame instruction is `composeFrame` of its command, but for the HANDSHAKE literal. -/
theorem frameInstructionsCompose : Obligations.FrameInstructionsCompose := by
  intro s addr value len
  refine ⟨fun legal => composeFrame_of_legal legal, fun illegal => composeFrame_of_illegal illegal,
    fun room => composeFrame_of_legal (legalLen_readLen_iff.mpr room),
    fun short => composeFrame_of_illegal (legalLen_readLen_iff.not.mpr (Nat.not_le.mpr short)), rfl, fun room => ?_,
    fun zero => composeFrame_of_illegal (legalLen_one_iff.not.mpr (by omega))⟩
  rw [← encode_editCommand]
  exact composeFrame_of_legal (legalLen_one_iff.mpr room)

/-! ### Groups -/

theorem takeGroup_of_not_running {r : Reassembly} (stopped : r.term ≠ none) (cin : BitVec 4) (d1 d2 d3 : Byte) :
    takeGroup cin d1 d2 d3 r = r := by
  obtain ⟨t, ht⟩ := Option.ne_none_iff_exists'.mp stopped
  exact takeGroup_of_stopped ht cin d1 d2 d3

theorem takeGroup_eq_afterGroup {cin : BitVec 4} (taken : cinCount cin ≠ 0) (d1 d2 d3 : Byte) (r : Reassembly) :
    takeGroup cin d1 d2 d3 r = afterGroup ([d1, d2, d3].take (cinCount cin)) r := by
  unfold afterGroup
  split
  · next running => rw [takeGroup_of_running running, if_neg taken, List.append_assoc]
  · next stopped => exact takeGroup_of_not_running stopped cin d1 d2 d3

theorem takeGroup_eq_afterTerminator {cin : BitVec 4} (ends : cinCount cin = 0) (d1 d2 d3 : Byte) (r : Reassembly) :
    takeGroup cin d1 d2 d3 r = afterTerminator r := by
  unfold afterTerminator
  split
  · next running => rw [takeGroup_of_running running, if_pos ends]
  · next stopped => exact takeGroup_of_not_running stopped cin d1 d2 d3

section
variable {s : State} {cin : BitVec 4} {d1 d2 d3 : Byte}

theorem acceptGroup_of_fits (fits : 4 * (s.rxGroups + 1) ≤ s.cfg.rxMaxBytes) :
    acceptGroup cin d1 d2 d3 s = { s with
      reasm := takeGroup cin d1 d2 d3 s.reasm, rxGroups := s.rxGroups + 1 } :=
  if_pos (groupFits_iff.mpr fits)

theorem acceptGroup_of_long (long : s.cfg.rxMaxBytes < 4 * (s.rxGroups + 1)) :
    acceptGroup cin d1 d2 d3 s = { s with refused := markAfter .rxTooLong s, answer := .refused .rxTooLong } :=
  (if_neg (groupFits_iff.not.mpr (Nat.not_le.mpr long))).trans (refuse_eq _ s)

theorem acceptGroup_data (fits : 4 * (s.rxGroups + 1) ≤ s.cfg.rxMaxBytes) (taken : cinCount cin ≠ 0) :
    acceptGroup cin d1 d2 d3 s = { s with
      reasm := afterGroup ([d1, d2, d3].take (cinCount cin)) s.reasm, rxGroups := s.rxGroups + 1 } := by
  rw [acceptGroup_of_fits fits, takeGroup_eq_afterGroup taken]

theorem acceptGroup_terminator (fits : 4 * (s.rxGroups + 1) ≤ s.cfg.rxMaxBytes) (ends : cinCount cin = 0) :
    acceptGroup cin d1 d2 d3 s = { s with
      reasm := afterTerminator s.reasm, rxGroups := s.rxGroups + 1 } := by
  rw [acceptGroup_of_fits fits, takeGroup_eq_afterTerminator ends]

end

/-- Settles O51: each row is `acceptGroup` of its CIN. -/
theorem groupInstructionsStepReassembly : Obligations.GroupInstructionsStepReassembly := by
  intro s cable d1 d2 d3
  dsimp only
  refine ⟨fun fits => ?_, fun long i mem => ?_⟩
  · refine ⟨congrArg Host.Outcome.next (acceptGroup_data (cin := 4) fits (by decide)),
      congrArg Host.Outcome.next (acceptGroup_data (cin := 5) fits (by decide)),
      congrArg Host.Outcome.next (acceptGroup_data (cin := 6) fits (by decide)),
      congrArg Host.Outcome.next (acceptGroup_data (cin := 7) fits (by decide)), fun i mem => ?_⟩
    fin_cases mem
    all_goals
      refine congrArg Host.Outcome.next (acceptGroup_terminator fits ?_)
      decide
  · fin_cases mem <;> exact congrArg Host.Outcome.next (acceptGroup_of_long long)

/-! ### The groups of a packet -/

theorem groupsOf_flatMap_groupBytes (gs : List EventGroup) : groupsOf (gs.flatMap groupBytes) = gs := by
  induction gs with
  | nil => rfl
  | cons g gs ih => exact congrArg (g :: ·) ih

theorem execAll_cons_of_next {i : Instr} {is : List Instr} {s t : State} (h : exec i s = .next t) :
    execAll (i :: is) s = execAll is t := by
  simp only [execAll, h]

/-- Within RX_MAX_BYTES the group instructions are Reassemble's loop, from any buffer (R110). -/
theorem execAll_decodeGroup (gs : List EventGroup) (s : State)
    (fits : 4 * (s.rxGroups + gs.length) ≤ s.cfg.rxMaxBytes) :
    execAll (gs.map (fun g => decodeGroup g.1 g.2.1 g.2.2.1 g.2.2.2)) s =
      .next { s with reasm := gs.foldl readGroup s.reasm, rxGroups := s.rxGroups + gs.length } := by
  induction gs generalizing s with
  | nil => rfl
  | cons g gs ih =>
    rw [List.length_cons] at fits
    have first : exec (decodeGroup g.1 g.2.1 g.2.2.1 g.2.2.2) s =
        .next { s with reasm := readGroup s.reasm g, rxGroups := s.rxGroups + 1 } := by
      rw [exec_decodeGroup, acceptGroup_of_fits (by omega)]; rfl
    rw [List.map_cons, execAll_cons_of_next first, ih]
    · simp only [List.foldl_cons, List.length_cons, Nat.add_assoc, Nat.add_comm 1]
    · show 4 * (s.rxGroups + 1 + gs.length) ≤ s.cfg.rxMaxBytes
      omega

/-- Settles O52: `execAll_decodeGroup` from the empty buffer. -/
theorem groupInstructionsRefineReassemble : Obligations.GroupInstructionsRefineReassemble := by
  intro s gs empty first fits
  have run := execAll_decodeGroup gs s (by rw [first, Nat.zero_add]; exact fits)
  rw [empty, first, Nat.zero_add] at run
  exact ⟨_, run, by rw [reassemble, groupsOf_flatMap_groupBytes]; rfl⟩

/-! ### Decode -/

/-- The window `B[8 .. n-2]` of R118. -/
theorem rxChecksumOk_iff (b : List Byte) :
    rxChecksumOk b = true ↔ (((b.drop 8).take (b.length - 9)).map BitVec.toNat).sum % 128 = 0 := by
  rw [rxChecksumOk, byteSum, List.drop_take, beq_iff_eq, Nat.sub_sub]

theorem decodePacket_eq_some {cfg : Config} {p : Packet} {v : ParamAddr × Byte} : decodePacket cfg p = some v ↔
    (reassemble p).term = some .endSeen ∧ 15 ≤ (reassemble p).bytes.length ∧
      (cfg.validateRxChecksum = true → rxChecksumOk (reassemble p).bytes = true) ∧
      rxFields (reassemble p).bytes = v := by
  unfold decodePacket
  by_cases seen : (reassemble p).term = some .endSeen
  · by_cases short : (reassemble p).bytes.length < 15
    · simp [seen, short]
    · cases validate : cfg.validateRxChecksum <;> cases ok : rxChecksumOk (reassemble p).bytes <;>
        simp [seen, short, ok, Nat.not_lt.mp short]
  · simp [seen]

theorem toNat_addrOfBytes (b3 b2 b1 b0 : Byte) : (addrOfBytes b3 b2 b1 b0).toNat =
    b3.toNat * 2 ^ 24 + b2.toNat * 2 ^ 16 + b1.toNat * 2 ^ 8 + b0.toNat := by
  simp only [addrOfBytes, toNat_append_eq]; omega

/-- Settles O57: Decode's three tests, and the fields of R116 by position. -/
theorem decodeAcceptsExactly : Obligations.DecodeAcceptsExactly := by
  intro cfg p b
  refine ⟨?_, fun addr value decoded => ?_⟩
  · simp only [Option.isSome_iff_exists, decodePacket_eq_some, rxChecksumOk_iff, exists_and_left, exists_eq',
      and_true, b]
  · obtain ⟨-, long, -, fields⟩ := decodePacket_eq_some.mp decoded
    obtain ⟨rfl, rfl⟩ := Prod.mk.inj fields
    have byteAt {k : Nat} (h : k < b.length) : b[k]? = some (b.getD k 0) := by
      rw [List.getD_eq_getElem?_getD, List.getElem?_eq_getElem h]; rfl
    change 15 ≤ b.length at long
    exact ⟨⟨_, _, _, _, byteAt (by omega), byteAt (by omega), byteAt (by omega), byteAt (by omega),
      toNat_addrOfBytes ..⟩, byteAt (by omega)⟩

end Sys2Proof.Machine
end

section
/-! The checksum, and Reassemble over a packet cut at a group boundary (40_frame_codec.md R105, R108, R110 to R114). -/

namespace Sys2Proof.Machine

/-! ### The checksum -/

theorem toNat_checksumOf_le (window : List Byte) : (checksumOf window).toNat ≤ 127 := by
  rw [toNat_checksumOf]; omega

theorem checksumOf_ne_of_lt {window : List Byte} {b : Byte} (large : 127 < b.toNat) : checksumOf window ≠ b := by
  rintro rfl
  exact absurd (toNat_checksumOf_le window) (Nat.not_le.mpr large)

theorem checksumOf_eq_zero_iff (window : List Byte) :
    checksumOf window = 0 ↔ 128 ∣ (window.map BitVec.toNat).sum := by
  rw [← BitVec.toNat_inj, toNat_checksumOf, Nat.dvd_iff_mod_eq_zero]
  show _ = 0 ↔ _
  omega

/-- Settles O49: the checksum is a remainder by 128. -/
theorem checksumIsSevenBit : Obligations.ChecksumIsSevenBit :=
  fun window => ⟨toNat_checksumOf_le window, checksumOf_ne_of_lt (by decide), checksumOf_ne_of_lt (by decide),
    checksumOf_eq_zero_iff window⟩

/-- The checksum completes its window's sum to a multiple of 128 (R103). -/
theorem sum_append_checksumOf (window : List Byte) :
    ((window ++ [checksumOf window]).map BitVec.toNat).sum % 128 = 0 := by
  rw [List.map_append, List.sum_append, List.map_singleton, List.sum_singleton, toNat_checksumOf]
  omega

theorem length_encodeCommand {cfg : Config} {c : Command} (pos : 1 ≤ c.len.toNat) :
    (encodeCommand cfg c).length = 14 + c.len.toNat :=
  length_frameOf _ _ _ _ pos

/-- Positions 8 to 12 + L are the window and the checksum (R104). -/
theorem encodeCommand_window_checksum {cfg : Config} {c : Command} (pos : 1 ≤ c.len.toNat) :
    ((encodeCommand cfg c).drop 8).take (5 + c.len.toNat) =
      frameWindow c.addr c.len.toNat c.value ++ [checksumOf (frameWindow c.addr c.len.toNat c.value)] := by
  rw [encodeCommand, frameOf_drop_eight, ← List.singleton_append (x := checksumOf _), ← List.append_assoc]
  refine List.take_left' ?_
  rw [List.length_append, length_frameWindow c.addr c.value pos, List.length_singleton]; omega

/-- Settles O48: these bytes are a window and its checksum. -/
theorem checksumSumsToZero : Obligations.ChecksumSumsToZero := by
  intro cfg c pos
  rw [encodeCommand_window_checksum pos]
  exact sum_append_checksumOf _

/-! ### The stop reason -/

theorem endOfGroups_bytes (r : Reassembly) : (endOfGroups r).bytes = r.bytes := by
  unfold endOfGroups; split <;> rfl

theorem endOfGroups_term_ne_none (r : Reassembly) : (endOfGroups r).term ≠ none := by
  cases h : r.term with
  | none => simp [endOfGroups_of_running h]
  | some t => simp [endOfGroups_of_stopped h, h]

/-- Only running out of groups gives EXHAUSTED (R112 to R114). -/
theorem readGroup_term_ne_exhausted {r : Reassembly} (h : r.term ≠ some .exhausted) (g : EventGroup) :
    (readGroup r g).term ≠ some .exhausted := by
  cases running : r.term with
  | some t => rwa [readGroup, takeGroup_of_stopped running]
  | none =>
    rw [readGroup, takeGroup_of_running running]
    split
    · nofun
    · split <;> nofun

theorem foldl_readGroup_term_ne_exhausted {r : Reassembly} (h : r.term ≠ some .exhausted) (gs : List EventGroup) :
    (gs.foldl readGroup r).term ≠ some .exhausted := by
  induction gs generalizing r with
  | nil => exact h
  | cons g gs ih => exact ih (readGroup_term_ne_exhausted h g)

/-- A packet that runs out without a stop leaves reassembly running with the bytes it gives (R114). -/
theorem foldl_readGroup_of_exhausted {p : Packet} (h : (reassemble p).term = some .exhausted) :
    (groupsOf p).foldl readGroup Reassembly.start = ⟨(reassemble p).bytes, none⟩ := by
  have notExhausted := foldl_readGroup_term_ne_exhausted (r := Reassembly.start) nofun (groupsOf p)
  unfold reassemble at h ⊢
  generalize (groupsOf p).foldl readGroup Reassembly.start = r at h notExhausted ⊢
  cases running : r.term with
  | none => rw [endOfGroups_bytes, ← running]
  | some t => rw [endOfGroups_of_stopped running] at h; exact absurd h notExhausted

/-! ### A packet cut at a group boundary -/

/-- Settles O54: the fragment holds no group. -/
theorem trailingFragmentIgnored : Obligations.TrailingFragmentIgnored := by
  intro p fragment whole short
  rw [reassemble, groupsOf_append fragment whole, groupsOf_of_short short, List.append_nil]; rfl

/-- A group that stops reassembly after a packet of whole groups is the last one read (R112, R113). -/
theorem reassemble_of_stopping_group {p : Packet} (whole : 4 ∣ p.length)
    (ranOut : (reassemble p).term = some .exhausted) {g : EventGroup} {bytes : List Byte} {t : Term}
    (stops : readGroup ⟨(reassemble p).bytes, none⟩ g = ⟨bytes, some t⟩) (rest : Packet) :
    reassemble (p ++ groupBytes g ++ rest) = ⟨bytes, some t⟩ := by
  have groups : groupsOf (groupBytes g ++ rest) = g :: groupsOf rest := rfl
  rw [List.append_assoc, reassemble, groupsOf_append _ whole, List.foldl_append, foldl_readGroup_of_exhausted ranOut,
    groups, List.foldl_cons, stops, foldl_readGroup_of_stopped rfl, endOfGroups_of_stopped rfl]

theorem toNat_groupCin (b0 : Byte) : (groupCin b0).toNat = b0.toNat % 16 := by
  rw [groupCin, toNat_extract_eq, pow_zero, Nat.div_one]; rfl

theorem cinCount_eq_zero_iff (cin : BitVec 4) : cinCount cin = 0 ↔ cin.toNat < 4 ∨ 7 < cin.toNat := by
  revert cin; decide

/-- Settles O55: such a group is `afterTerminator`. -/
theorem otherCinEndsReassembly : Obligations.OtherCinEndsReassembly := by
  intro p rest b0 b1 b2 b3 whole ranOut outside
  rw [← toNat_groupCin, ← cinCount_eq_zero_iff] at outside
  exact reassemble_of_stopping_group whole ranOut (g := (b0, b1, b2, b3))
    (takeGroup_eq_afterTerminator outside b1 b2 b3 _) rest

/-- A group of CIN 4 to 7 gives its data bytes (R110). -/
theorem readGroup_eq_afterGroup {g : EventGroup} (taken : cinCount (groupCin g.1) ≠ 0) (r : Reassembly) :
    readGroup r g = afterGroup (groupData g) r :=
  takeGroup_eq_afterGroup taken _ _ _ r

theorem afterGroup_of_end_mem {data : List Byte} (ends : endByte ∈ data) (bytes : List Byte) :
    afterGroup data ⟨bytes, none⟩ = ⟨bytes ++ data.takeWhile (· ≠ endByte) ++ [endByte], some .endSeen⟩ := by
  rw [afterGroup, if_pos rfl, if_pos ends]

/-- R83's count of the data bytes of CIN 4 to 7. -/
theorem cinCount_groupCin {b0 : Byte} {n : Nat}
    (h : (b0.toNat % 16 = 4 ∧ n = 3) ∨ (b0.toNat % 16 = 5 ∧ n = 1) ∨ (b0.toNat % 16 = 6 ∧ n = 2) ∨
      (b0.toNat % 16 = 7 ∧ n = 3)) : cinCount (groupCin b0) = n ∧ n ≠ 0 := by
  simp only [← toNat_groupCin] at h
  rcases h with ⟨cin, rfl⟩ | ⟨cin, rfl⟩ | ⟨cin, rfl⟩ | ⟨cin, rfl⟩ <;> simp [cinCount, cin]

/-- Settles O56: such a group is `afterGroup` of its data bytes. -/
theorem endByteEndsReassembly : Obligations.EndByteEndsReassembly := by
  intro p rest b0 b1 b2 b3 n whole ranOut cin ends
  obtain ⟨count, taken⟩ := cinCount_groupCin cin
  subst count
  exact reassemble_of_stopping_group whole ranOut (g := (b0, b1, b2, b3))
    ((readGroup_eq_afterGroup taken _).trans (afterGroup_of_end_mem ends _)) rest

end Sys2Proof.Machine
end

section
/-! The bounds of the two working buffers (10_state.md R32, 40_frame_codec.md R101, R110). -/

namespace Sys2Proof.Machine

/-! ### Reassemble -/

theorem length_foldl_readGroup_le (gs : List EventGroup) (r : Reassembly) :
    (gs.foldl readGroup r).bytes.length ≤ r.bytes.length + 3 * gs.length := by
  induction gs generalizing r with
  | nil => rfl
  | cons g gs ih =>
    have first : (readGroup r g).bytes.length ≤ r.bytes.length + 3 := length_takeGroup_le ..
    have rest := ih (readGroup r g)
    rw [List.foldl_cons, List.length_cons]; omega

theorem length_reassemble_le (p : Packet) : (reassemble p).bytes.length ≤ 3 * (p.length / 4) := by
  have := length_foldl_readGroup_le (groupsOf p) Reassembly.start
  rwa [length_groupsOf, show Reassembly.start.bytes.length = 0 from rfl, Nat.zero_add, ← endOfGroups_bytes] at this

/-! ### Instructions -/

section
variable {s t : State}

theorem SameBuffers.trans {u : State} (first : SameBuffers s t) (second : SameBuffers t u) : SameBuffers s u := by
  obtain ⟨frame, reasm, groups⟩ := first
  obtain ⟨frame', reasm', groups'⟩ := second
  exact ⟨frame'.trans frame, reasm'.trans reasm, groups'.trans groups⟩

theorem BuffersFit.of_sameBuffers (fit : BuffersFit s) (same : SameBuffers s t) (cfg : t.cfg = s.cfg) :
    BuffersFit t := by
  obtain ⟨frame, reasm, groups⟩ := same
  rwa [BuffersFit, frame, reasm, groups, cfg]

theorem sameBuffers_takePacket (s : State) : SameBuffers s (takePacket s) := by
  simp [SameBuffers]

theorem sameBuffers_pollDisconnected (s : State) : SameBuffers s (pollDisconnected s) := by
  unfold pollDisconnected; split <;> exact ⟨rfl, rfl, rfl⟩

theorem sameBuffers_enqueueAnswer (c : Command) (s : State) : SameBuffers s (enqueueAnswer c s) := by
  rw [enqueueAnswer, enqueue_eq]; exact ⟨rfl, rfl, rfl⟩

theorem DispatchCase.sameBuffers (case : DispatchCase s t) : SameBuffers s t := by
  cases case with
  | send _ _ _ _ _ eq => subst eq; exact ⟨rfl, rfl, rfl⟩
  | idle _ eq => subst eq; exact ⟨rfl, rfl, rfl⟩

/-- A POLL reassembles and encodes without the working buffers (notes/assumptions/11.md). -/
theorem PollCase.sameBuffers (case : PollCase s t) : SameBuffers s t := by
  cases case with
  | badTime _ _ eq => subst eq; exact ⟨rfl, rfl, rfl⟩
  | disconnected _ _ eq => subst eq; exact sameBuffers_pollDisconnected s
  | connect _ _ _ eq => subst eq; exact ⟨rfl, rfl, rfl⟩
  | wait _ _ _ _ eq => subst eq; exact ⟨rfl, rfl, rfl⟩
  | secondHandshake _ _ _ _ _ eq => subst eq; exact ⟨rfl, rfl, rfl⟩
  | editMode _ _ _ _ _ eq => subst eq; exact ⟨rfl, rfl, rfl⟩
  | justReady _ _ _ _ _ eq => subst eq; exact ⟨rfl, rfl, rfl⟩
  | rxTooLong _ _ _ _ _ _ eq => subst eq; exact sameBuffers_takePacket s
  | receive _ _ _ _ _ _ _ _ _ eq => subst eq; exact sameBuffers_takePacket s
  | discard _ _ _ _ _ _ _ dispatch => exact (sameBuffers_takePacket s).trans dispatch.sameBuffers
  | noPacket _ _ _ _ dispatch => exact dispatch.sameBuffers

theorem BuffersFit.loadFrame (fit : BuffersFit s) {f : Frame} (short : f.length ≤ max 15 (14 + s.cfg.maxPayload)) :
    BuffersFit (loadFrame f s) := by
  obtain ⟨-, reasm, groups⟩ := fit
  exact ⟨short, reasm, groups⟩

theorem BuffersFit.loadGroup (fit : BuffersFit s) (cin : BitVec 4) (d1 d2 d3 : Byte)
    (fits : 4 * (s.rxGroups + 1) ≤ s.cfg.rxMaxBytes) : BuffersFit (loadGroup cin d1 d2 d3 s) := by
  obtain ⟨frame, reasm, -⟩ := fit
  have added := length_takeGroup_le cin d1 d2 d3 s.reasm
  exact ⟨frame, by rw [loadGroup_reasm, loadGroup_rxGroups]; omega, fits⟩

/-- Encode's frame of a legal length is within R32's bound (R101). -/
theorem length_encodeCommand_le {cfg : Config} {c : Command} (legal : LegalLen cfg c.len) :
    (encodeCommand cfg c).length ≤ max 15 (14 + cfg.maxPayload) := by
  obtain ⟨pos, le⟩ := legal
  rw [length_encodeCommand pos]; omega

theorem composeFrame_buffersFit {c : Command} (fit : BuffersFit s) (h : composeFrame c s = .next t) :
    BuffersFit t := by
  obtain ⟨legal, rfl⟩ := composeFrame_eq_next h
  exact fit.loadFrame (length_encodeCommand_le legal)

theorem exec_frame_buffersFit {i : Instr} {f : Frame} (fit : BuffersFit s) (frame : frameBytes s.cfg i = some f)
    (h : exec i s = .next t) : BuffersFit t := by
  cases i with
  | writeFrame => exact composeFrame_buffersFit fit h
  | readFrame => exact composeFrame_buffersFit fit h
  | editFrame => exact composeFrame_buffersFit fit h
  | handshake => cases h; exact fit.loadFrame (le_max_left ..)
  | _ => cases frame

theorem exec_buffersFit {i : Instr} (fit : BuffersFit s) (h : exec i s = .next t) : BuffersFit t := by
  have case := exec_cases h
  have cfg := case.cfg_eq
  cases case with
  | poll _ case => exact fit.of_sameBuffers case.sameBuffers cfg
  | enqueue c _ eq => subst eq; exact fit.of_sameBuffers (sameBuffers_enqueueAnswer c s) cfg
  | query _ eq => subst eq; exact fit.of_sameBuffers ⟨rfl, rfl, rfl⟩ cfg
  | refusal _ _ _ eq => subst eq; exact fit.of_sameBuffers ⟨rfl, rfl, rfl⟩ cfg
  | frame _ frame _ => exact exec_frame_buffersFit fit frame h
  | group cin _ d1 d2 d3 _ fits eq => subst eq; exact fit.loadGroup cin d1 d2 d3 fits

/-- R32's bound in bytes: at most RX_MAX_BYTES / 4 groups of three bytes. -/
theorem BuffersFit.length_reasm_le (fit : BuffersFit s) :
    s.reasm.bytes.length ≤ 3 * (s.cfg.rxMaxBytes / 4) := by
  obtain ⟨-, reasm, groups⟩ := fit
  omega

end

/-- Settles O53: three bytes a group, and the bounds are kept by every case of an instruction. -/
theorem reassemblyIsBounded : Obligations.ReassemblyIsBounded := by
  refine ⟨fun p => ⟨length_reassemble_le p, endOfGroups_term_ne_none _⟩, fun i s t fit h => ?_⟩
  have kept := exec_buffersFit fit h
  exact ⟨kept, kept.length_reasm_le⟩

end Sys2Proof.Machine
end

section
/-! The round trip of a command's frame through any packetisation of it (40_frame_codec.md R115 to R118, R122). -/

namespace Sys2Proof.Machine

/-! ### Reassembling a packetisation -/

theorem takeWhile_ne_endByte {body : List Byte} (clean : endByte ∉ body) (tail : List Byte) :
    (body ++ endByte :: tail).takeWhile (· ≠ endByte) = body := by
  have goOn : ∀ b ∈ body, decide (b ≠ endByte) = true := fun b mem =>
    decide_eq_true fun eq => clean (eq ▸ mem)
  rw [List.takeWhile_append_of_pos goOn, List.takeWhile_cons_of_neg (by simp), List.append_nil]

/-- Data bytes with END among them, cut at the first one (R113). -/
theorem afterGroup_of_cut {body : List Byte} (clean : endByte ∉ body) (tail bytes : List Byte) :
    afterGroup (body ++ endByte :: tail) ⟨bytes, none⟩ = ⟨bytes ++ body ++ [endByte], some .endSeen⟩ := by
  rw [afterGroup_of_end_mem (by simp), takeWhile_ne_endByte clean]

theorem afterGroup_of_clean {data : List Byte} (clean : endByte ∉ data) (bytes : List Byte) :
    afterGroup data ⟨bytes, none⟩ = ⟨bytes ++ data, none⟩ := by
  rw [afterGroup, if_pos rfl, if_neg clean]

/-- Reading a run of data bytes at once or in two parts is the same, wherever it is cut (R122). -/
theorem afterGroup_append (a b : List Byte) : ∀ r : Reassembly,
    afterGroup (a ++ b) r = afterGroup b (afterGroup a r)
  | ⟨_, some _⟩ => rfl
  | ⟨bytes, none⟩ => by
    by_cases ends : endByte ∈ a
    · obtain ⟨body, tail, rfl, clean⟩ := List.eq_append_cons_of_mem ends
      rw [List.append_assoc, List.cons_append, afterGroup_of_cut clean, afterGroup_of_cut clean]; rfl
    · rw [afterGroup_of_clean ends]
      by_cases later : endByte ∈ b
      · obtain ⟨body, tail, rfl, clean⟩ := List.eq_append_cons_of_mem later
        have clean' : endByte ∉ a ++ body := by simp [ends, clean]
        rw [← List.append_assoc, afterGroup_of_cut clean', afterGroup_of_cut clean, ← List.append_assoc]
      · rw [afterGroup_of_clean (by simp [ends, later]), afterGroup_of_clean later, List.append_assoc]

theorem afterGroup_nil : ∀ r : Reassembly, afterGroup [] r = r
  | ⟨_, some _⟩ => rfl
  | ⟨bytes, none⟩ => (afterGroup_of_clean List.not_mem_nil bytes).trans (by rw [List.append_nil])

/-- Groups of CIN 4 to 7 are read as one run of data bytes (R110, R122). -/
theorem foldl_readGroup_of_taken {gs : List EventGroup} (taken : ∀ g ∈ gs, cinCount (groupCin g.1) ≠ 0)
    (r : Reassembly) : gs.foldl readGroup r = afterGroup (gs.flatMap groupData) r := by
  induction gs generalizing r with
  | nil => exact (afterGroup_nil r).symm
  | cons g gs ih =>
    obtain ⟨first, rest⟩ := List.forall_mem_cons.mp taken
    rw [List.foldl_cons, readGroup_eq_afterGroup first, ih rest, List.flatMap_cons, afterGroup_append]

section
variable {cfg : Config} {gs : List EventGroup} {f : Frame}

/-- A packetisation gives its frame's bytes up to the first END (R113). -/
theorem reassemble_of_packs {body tail : List Byte} (packs : Packs gs f) (cut : f = body ++ endByte :: tail)
    (clean : endByte ∉ body) : reassemble (gs.flatMap groupBytes) = ⟨body ++ [endByte], some .endSeen⟩ := by
  obtain ⟨taken, more, data⟩ := packs
  rw [cut, List.append_assoc, List.cons_append] at data
  rw [reassemble, groupsOf_flatMap_groupBytes, foldl_readGroup_of_taken taken, ← data, Reassembly.start,
    afterGroup_of_cut clean, endOfGroups_of_stopped rfl, List.nil_append]

/-- With END before position 14 fewer than 15 bytes come back, and Decode gives none (R115). -/
theorem decodePacket_of_early_end {k : Nat} (packs : Packs gs f) (ends : f[k]? = some endByte) (early : k < 14) :
    decodePacket cfg (gs.flatMap groupBytes) = none := by
  obtain ⟨body, tail, cut, clean⟩ := List.eq_append_cons_of_mem (List.mem_of_getElem? ends)
  have short : body.length ≤ k := by
    by_contra long
    rw [cut, List.getElem?_append_left (by omega)] at ends
    exact clean (List.mem_of_getElem? ends)
  refine Option.eq_none_iff_forall_ne_some.mpr fun v decoded => ?_
  obtain ⟨-, atLeast, -⟩ := decodePacket_eq_some.mp decoded
  rw [reassemble_of_packs packs cut clean, List.length_append, List.length_singleton] at atLeast
  omega

end

/-! ### The frame's head and the bytes after it -/

/-- The frame's first twelve bytes: START, identifier, action and address (R77). -/
def frameHead (cfg : Config) (c : Command) : List Byte :=
  startByte :: cfg.wireId.bytes ++ actionByte c.op :: addrBytes c.addr

section
variable {cfg : Config} {c : Command}

theorem length_frameHead : (frameHead cfg c).length = 12 := rfl

/-- After the head come the fill, the value, the checksum and END (R77, R102). -/
theorem encodeCommand_eq_append : encodeCommand cfg c = frameHead cfg c ++ (List.replicate (c.len.toNat - 1) 0 ++
    c.value :: [checksumOf (frameWindow c.addr c.len.toNat c.value), endByte]) := by
  simp [encodeCommand, frameOf_eq_append, frameHead, frameWindow, payloadBytes]

theorem endByte_not_mem_frameHead (legal : cfg.wireId.Legal) (clean : endByte ∉ addrBytes c.addr) :
    endByte ∉ frameHead cfg c := by
  have wire : endByte ∉ cfg.wireId.bytes := fun mem => absurd (legal _ mem) (by decide)
  have action : endByte ≠ actionByte c.op := by cases c.op <;> decide
  have start : endByte ≠ startByte := by decide
  simp [frameHead, wire, action, start, clean]

theorem endByte_not_mem_fill (n : Nat) : endByte ∉ List.replicate n (0 : Byte) :=
  fun mem => absurd (List.eq_of_mem_replicate mem) (by decide)

/-- R116: the address is read from the head, the value three bytes before the end. -/
theorem rxFields_frameHead_append {rest : List Byte} (long : 3 ≤ rest.length) :
    rxFields (frameHead cfg c ++ rest) = (c.addr, rest.getD (rest.length - 3) 0) := by
  have value : (frameHead cfg c ++ rest).getD ((frameHead cfg c ++ rest).length - 3) 0 =
      rest.getD (rest.length - 3) 0 := by
    rw [List.length_append, Nat.add_sub_assoc long, List.getD_append_right _ _ _ _ (Nat.le_add_right ..),
      Nat.add_sub_cancel_left]
  exact Prod.ext (addrOfBytes_addrBytes c.addr) value

theorem rxFields_encodeCommand : rxFields (encodeCommand cfg c) = (c.addr, c.value) := by
  rw [encodeCommand_eq_append, rxFields_frameHead_append (by simp)]
  simp

/-- An encoded frame passes the inbound checksum test (R108, R118). -/
theorem rxChecksumOk_encodeCommand (pos : 1 ≤ c.len.toNat) : rxChecksumOk (encodeCommand cfg c) = true := by
  have length : (encodeCommand cfg c).length - 9 = 5 + c.len.toNat := by
    rw [length_encodeCommand pos]; omega
  rw [rxChecksumOk_iff, length]
  exact checksumSumsToZero cfg c pos

/-! ### Decode of a packetisation -/

variable {gs : List EventGroup}

/-- Without END among the address bytes and the value, the first END is the frame's own (R105, R113). -/
theorem reassemble_encodeCommand (legal : cfg.wireId.Legal) (cleanAddr : endByte ∉ addrBytes c.addr)
    (cleanValue : c.value ≠ endByte) (packs : Packs gs (encodeCommand cfg c)) :
    reassemble (gs.flatMap groupBytes) = ⟨encodeCommand cfg c, some .endSeen⟩ := by
  obtain ⟨checksum, checksum_ne, frame⟩ : ∃ checksum ≠ endByte, encodeCommand cfg c =
      frameHead cfg c ++ (List.replicate (c.len.toNat - 1) 0 ++ c.value :: [checksum, endByte]) :=
    ⟨_, checksumOf_ne_of_lt (by decide), encodeCommand_eq_append⟩
  rw [reassemble_of_packs (tail := [])
    (body := frameHead cfg c ++ (List.replicate (c.len.toNat - 1) 0 ++ [c.value, checksum])) packs]
  · simp [frame]
  · simp [frame]
  · simp only [List.mem_append, List.mem_cons, List.not_mem_nil, or_false, not_or]
    exact ⟨endByte_not_mem_frameHead legal cleanAddr, endByte_not_mem_fill _, cleanValue.symm, checksum_ne.symm⟩

/-- An address byte END stands before position 12 (R77). -/
theorem exists_addr_end (ends : endByte ∈ addrBytes c.addr) :
    ∃ k < 12, (encodeCommand cfg c)[k]? = some endByte := by
  obtain ⟨k, hk⟩ := List.mem_iff_getElem?.mp ends
  have lt : k < 4 := (List.getElem?_eq_some_iff.mp hk).1
  refine ⟨8 + k, by omega, ?_⟩
  rw [← List.getElem?_drop, encodeCommand, frameOf_drop_eight, frameWindow, List.append_assoc,
    List.getElem?_append_left lt, hk]

/-- A value END is the first END, right after the fill (R102, R113). -/
theorem reassemble_encodeCommand_of_value_end (legal : cfg.wireId.Legal) (cleanAddr : endByte ∉ addrBytes c.addr)
    (ends : c.value = endByte) (packs : Packs gs (encodeCommand cfg c)) :
    reassemble (gs.flatMap groupBytes) =
      ⟨frameHead cfg c ++ (List.replicate (c.len.toNat - 1) 0 ++ [endByte]), some .endSeen⟩ := by
  have clean : endByte ∉ frameHead cfg c ++ List.replicate (c.len.toNat - 1) 0 := by
    rw [List.mem_append, not_or]
    exact ⟨endByte_not_mem_frameHead legal cleanAddr, endByte_not_mem_fill _⟩
  rw [reassemble_of_packs packs (by rw [encodeCommand_eq_append, ends, List.append_assoc]) clean, List.append_assoc]

end

/-- Settles O58: the frame comes back whole, and Decode accepts every encoded frame. -/
theorem frameRoundTrip : Obligations.FrameRoundTrip := by
  intro cfg c gs legal pos cleanAddr cleanValue packs
  rw [decodePacket_eq_some, reassemble_encodeCommand legal cleanAddr cleanValue packs]
  have long : 15 ≤ (encodeCommand cfg c).length := by
    rw [length_encodeCommand pos]; omega
  exact ⟨rfl, long, fun _ => rxChecksumOk_encodeCommand pos, rxFields_encodeCommand⟩

/-- Settles O59: END before position 14 leaves too few bytes; a later value END is cut off behind the fill. -/
theorem endByteBreaksRoundTrip : Obligations.EndByteBreaksRoundTrip := by
  intro cfg c gs legal pos packs
  refine ⟨fun addrEnds => ?_, fun _ valueEnds short => ?_, fun cleanAddr valueEnds long unchecked => ?_⟩
  · obtain ⟨k, early, ends⟩ := exists_addr_end addrEnds
    exact decodePacket_of_early_end packs ends (by omega)
  · have ends : (encodeCommand cfg c)[11 + c.len.toNat]? = some endByte := by
      rw [encodeCommand, frameOf_value _ _ _ _ pos, valueEnds]
    exact decodePacket_of_early_end packs ends (by omega)
  · rw [decodePacket_eq_some, reassemble_encodeCommand_of_value_end legal cleanAddr valueEnds packs]
    refine ⟨rfl, ?_, by simp [unchecked], ?_⟩
    · simp [length_frameHead]; omega
    · rw [rxFields_frameHead_append (by simp; omega), List.getD_append _ _ _ _ (by simp; omega)]
      simp

end Sys2Proof.Machine
end

section
/-! The command queue: Enqueue below and at capacity, the order it keeps, the host operations on it, and the only
ways a step changes it (41_command_queue.md R130 to R144). -/

namespace Sys2Proof.Machine

/-! ### Enqueue (R131, R132) -/

section
variable {s : State}

theorem evicts_iff : evicts s = true ↔ s.queue.length = s.cfg.queueN := by
  simp [evicts]

theorem enqueue_of_below (below : s.queue.length ≠ s.cfg.queueN) (c : Command) :
    enqueue c s = setQueue (s.queue ++ [c]) s :=
  if_neg (evicts_iff.not.mpr below)

theorem enqueue_of_full {old : Command} {rest : List Command} (full : s.queue.length = s.cfg.queueN)
    (queue : s.queue = old :: rest) (c : Command) :
    enqueue c s = emit (.evict old) (setQueue (rest ++ [c]) s) := by
  rw [enqueue_eq, evicts_iff.mpr full, queue]; rfl

/-- Commands that fit are all appended, in order, and nothing else happens (R131). -/
theorem foldl_enqueue_of_fits (cs : List Command) (s : State) (fits : s.queue.length + cs.length ≤ s.cfg.queueN) :
    cs.foldl (fun u c => enqueue c u) s = setQueue (s.queue ++ cs) s := by
  induction cs generalizing s with
  | nil => rw [List.append_nil]; rfl
  | cons c cs ih =>
    rw [List.length_cons] at fits
    rw [List.foldl_cons, enqueue_of_below (by omega), ih]
    · simp [setQueue]
    · simp; omega

/-- On an empty queue the commands that fit are the queue (R143). -/
theorem foldl_enqueue_of_empty (empty : s.queue = []) {cs : List Command} (fits : cs.length ≤ s.cfg.queueN) :
    cs.foldl (fun u c => enqueue c u) s = setQueue cs s := by
  rw [foldl_enqueue_of_fits cs s (by simpa [empty] using fits), empty, List.nil_append]

end

/-- Settles O27: three commands fit, and Dequeue takes them from the front. -/
theorem queueIsFifo : Obligations.QueueIsFifo := by
  intro s c1 c2 c3 empty room
  have filled : enqueue c3 (enqueue c2 (enqueue c1 s)) = setQueue [c1, c2, c3] s :=
    foldl_enqueue_of_empty (cs := [c1, c2, c3]) empty room
  rw [filled]
  exact ⟨setQueue [c2, c3] s, setQueue [c3] s, setQueue [] s, rfl, rfl, rfl, rfl⟩

/-- Settles O28: the commands before the last fill the queue without an eviction, and the last one finds it at
capacity. -/
theorem overflowEvictsTheFirst : Obligations.OverflowEvictsTheFirst := by
  intro s c1 last cs empty capacity
  have filled : (c1 :: cs).foldl (fun u c => enqueue c u) s = setQueue (c1 :: cs) s :=
    foldl_enqueue_of_empty empty capacity.le
  have overflow : enqueue last (setQueue (c1 :: cs) s) =
      emit (.evict c1) (setQueue (cs ++ [last]) (setQueue (c1 :: cs) s)) :=
    enqueue_of_full (s := setQueue (c1 :: cs) s) capacity rfl last
  rw [filled, overflow]
  refine ⟨fun k below => ?_, evicts_iff.mpr capacity, rfl, rfl⟩
  have taken : ((c1 :: cs).take k).length = k := List.length_take_of_le (below.le.trans capacity.ge)
  rw [foldl_enqueue_of_empty empty (taken.le.trans below.le), ← Bool.not_eq_true, evicts_iff, setQueue_queue, taken]
  exact below.ne

/-! ### The host operations (R138 to R142) -/

section
variable {s t : State}

theorem responseWord_queryResponse (s : State) :
    responseWord (queryResponse s) = if s.queue = [] then 0x10 else 0x00 := by
  rw [queryResponse, isEmpty_eq]
  split
  case isTrue empty => rw [decide_eq_true empty]; decide
  case isFalse busy => rw [decide_eq_false busy]; decide

theorem execWrite_of_legal {len : BitVec 8} (legal : LegalLen s.cfg len) (addr : ParamAddr) (value : Byte) :
    execWrite addr value len s = .next (enqueueAnswer (writeCommand addr value len) s) :=
  if_pos (lengthOk_iff.mpr legal)

theorem enqueueAnswer_of_below (below : s.queue.length ≠ s.cfg.queueN) (c : Command) :
    enqueueAnswer c s = { s with queue := s.queue ++ [c], answer := .response 0 } := by
  have word : responseWord (enqueueResponse false) = 0 := by decide
  rw [enqueueAnswer, enqueue_of_below below, Bool.eq_false_iff.mpr (evicts_iff.not.mpr below), respond, word]; rfl

theorem enqueueAnswer_of_full {old : Command} {rest : List Command} (full : s.queue.length = s.cfg.queueN)
    (queue : s.queue = old :: rest) (c : Command) :
    enqueueAnswer c s =
      { s with queue := rest ++ [c], trace := s.trace ++ [.evict old], answer := .response 0x20 } := by
  have word : responseWord (enqueueResponse true) = 0x20 := by decide
  rw [enqueueAnswer, enqueue_of_full full queue, evicts_iff.mpr full, respond, word]; rfl

/-- A host request leaves the working buffers to the codec operations (R32, notes/assumptions/11.md). -/
theorem ExecCase.sameBuffers_of_request {i : Instr} {w : RequestWord} (case : ExecCase i s t)
    (request : encode s.cfg i = .request w) : SameBuffers s t := by
  cases case with
  | poll _ case => exact case.sameBuffers
  | enqueue c _ eq => subst eq; exact sameBuffers_enqueueAnswer c s
  | query _ eq => subst eq; exact ⟨rfl, rfl, rfl⟩
  | refusal _ _ _ eq => subst eq; exact ⟨rfl, rfl, rfl⟩
  | frame _ instr _ => exact Encoded.noConfusion (request.symm.trans (encode_of_frameBytes instr))
  | group _ _ _ _ _ instr _ _ => exact Encoded.noConfusion (request.symm.trans instr)

/-- The state with other signals and other packets with the transport (R34, R150 to R153). -/
def withTransport (inputs : Inputs) (inbox : List Packet) (s : State) : State :=
  { s with inputs := inputs, inbox := inbox }

theorem enqueueAnswer_withTransport (inputs : Inputs) (inbox : List Packet) (c : Command) (s : State) :
    enqueueAnswer c (withTransport inputs inbox s) = withTransport inputs inbox (enqueueAnswer c s) := by
  simp only [enqueueAnswer, enqueue_eq]; rfl

theorem execWrite_withTransport {addr : ParamAddr} {value : Byte} {len : BitVec 8}
    (h : execWrite addr value len s = .next t) (inputs : Inputs) (inbox : List Packet) :
    execWrite addr value len (withTransport inputs inbox s) = .next (withTransport inputs inbox t) := by
  by_cases legal : LegalLen s.cfg len
  case pos =>
    cases (execWrite_of_legal legal addr value).symm.trans h
    rw [execWrite_of_legal (s := withTransport inputs inbox s) legal, enqueueAnswer_withTransport]
  case neg =>
    cases (execWrite_of_illegal legal addr value).symm.trans h
    exact execWrite_of_illegal (s := withTransport inputs inbox s) legal addr value

/-- The host operations on the queue (R142). -/
def QueueOp (i : Instr) : Prop :=
  i = .nop ∨ i = .queryEmpty ∨ (∃ addr value len, i = .write addr value len) ∨ ∃ addr probe, i = .read addr probe

theorem QueueOp.ne_poll {i : Instr} (op : QueueOp i) : i ≠ .poll := by
  obtain rfl | rfl | ⟨_, _, _, rfl⟩ | ⟨_, _, rfl⟩ := op <;> exact Instr.noConfusion

theorem QueueOp.encode_eq_request {i : Instr} (op : QueueOp i) (cfg : Config) : ∃ w, encode cfg i = .request w := by
  obtain rfl | rfl | ⟨_, _, _, rfl⟩ | ⟨_, _, rfl⟩ := op <;> exact ⟨_, rfl⟩

theorem QueueOp.exec_withTransport {i : Instr} (op : QueueOp i) (h : exec i s = .next t) (inputs : Inputs)
    (inbox : List Packet) : exec i (withTransport inputs inbox s) = .next (withTransport inputs inbox t) := by
  obtain rfl | rfl | ⟨_, _, _, rfl⟩ | ⟨_, _, rfl⟩ := op
  · cases h; rfl
  · cases h; rfl
  · exact execWrite_withTransport h inputs inbox
  · cases h; exact congrArg _ (enqueueAnswer_withTransport inputs inbox _ s)

end

/-- Settles O25: the response word is all that QUERY_EMPTY and NOP write. -/
theorem queryAndNopOnlyAnswer : Obligations.QueryAndNopOnlyAnswer := by
  intro s i op
  rw [← responseWord_queryResponse]
  obtain rfl | rfl := op <;> rfl

/-- Settles O23: both instructions are `enqueueAnswer` of their command, below capacity and at it. -/
theorem writeAndReadEnqueue : Obligations.WriteAndReadEnqueue := by
  intro s i c instr
  have answers : exec i s = .next (enqueueAnswer c s) := by
    obtain ⟨addr, value, len, rfl, legal, rfl⟩ | ⟨addr, probe, rfl, rfl⟩ := instr
    · exact execWrite_of_legal legal addr value
    · rfl
  rw [answers]
  exact ⟨fun below => congrArg _ (enqueueAnswer_of_below below c),
    fun old rest full queue => congrArg _ (enqueueAnswer_of_full full queue c)⟩

/-- Settles O26: what the operation leaves alone is a request's other than POLL, and it commutes with
`withTransport`. -/
theorem queueOperationsIgnoreTransport : Obligations.QueueOperationsIgnoreTransport := by
  intro i s t (op : QueueOp i) h
  have case := exec_cases h
  obtain ⟨controller, outside, nothingSent⟩ := case.sameController_sameOutside_sendsNothing op.ne_poll
  obtain ⟨_, request⟩ := op.encode_eq_request s.cfg
  exact ⟨controller, case.sameBuffers_of_request request, outside, nothingSent, op.exec_withTransport h⟩

/-! ### The only ways a step changes the queue (R136) -/

/-- From `s` to `t` the queue is unchanged, appended to, appended to after an eviction, or sent from. -/
def QueueChange (s t : State) : Prop :=
  t.queue = s.queue ∨
  (∃ c, t.queue = s.queue ++ [c]) ∨
  (∃ old rest c, s.queue = old :: rest ∧ t.queue = rest ++ [c] ∧ t.trace = s.trace ++ [.evict old]) ∨
  (∃ c rest, s.queue = c :: rest ∧ t.queue = rest ∧ t.trace = s.trace ++ [.tx (encodeCommand s.cfg c)])

section
variable {s t : State}

@[simp] theorem pollDisconnected_queue (s : State) : (pollDisconnected s).queue = s.queue := by
  unfold pollDisconnected; split <;> rfl

/-- An eviction from an empty queue, with no capacity at all, is an append (R131). -/
theorem queueChange_enqueueAnswer (c : Command) (s : State) : QueueChange s (enqueueAnswer c s) := by
  by_cases full : s.queue.length = s.cfg.queueN
  · cases queue : s.queue with
    | nil =>
      refine .inr (.inl ⟨c, ?_⟩)
      rw [enqueueAnswer, respond_queue, enqueue_eq, queue]; simp
    | cons old rest =>
      rw [enqueueAnswer_of_full full queue]
      exact .inr (.inr (.inl ⟨old, rest, c, queue, rfl, rfl⟩))
  · rw [enqueueAnswer_of_below full]
    exact .inr (.inl ⟨c, rfl⟩)

theorem DispatchCase.queueChange (case : DispatchCase s t) : QueueChange s t := by
  cases case with
  | send c rest queue _ _ eq => subst eq; exact .inr (.inr (.inr ⟨c, rest, queue, rfl, rfl⟩))
  | idle _ eq => subst eq; exact .inl rfl

/-- Of R154's cases only the dispatch touches the queue (R163). -/
theorem PollCase.queueChange (case : PollCase s t) : QueueChange s t := by
  cases case with
  | badTime _ _ eq => subst eq; exact .inl rfl
  | disconnected _ _ eq => subst eq; exact .inl (pollDisconnected_queue s)
  | connect _ _ _ eq => subst eq; exact .inl rfl
  | wait _ _ _ _ eq => subst eq; exact .inl rfl
  | secondHandshake _ _ _ _ _ eq => subst eq; exact .inl rfl
  | editMode _ _ _ _ _ eq => subst eq; exact .inl rfl
  | justReady _ _ _ _ _ eq => subst eq; exact .inl rfl
  | rxTooLong _ _ _ _ _ _ eq => subst eq; exact .inl (takePacket_queue s)
  | receive _ _ _ _ _ _ _ _ _ eq => subst eq; exact .inl (takePacket_queue s)
  | discard _ _ _ _ _ _ _ dispatch => simpa [QueueChange] using dispatch.queueChange
  | noPacket _ _ _ _ dispatch => exact dispatch.queueChange

theorem ExecCase.queueChange {i : Instr} (case : ExecCase i s t) : QueueChange s t := by
  cases case with
  | poll _ case => exact case.queueChange
  | enqueue c _ eq => subst eq; exact queueChange_enqueueAnswer c s
  | query _ eq => subst eq; exact .inl rfl
  | refusal _ _ _ eq => subst eq; exact .inl rfl
  | frame _ _ eq => subst eq; exact .inl rfl
  | group _ _ _ _ _ _ _ eq => subst eq; exact .inl rfl

end

/-- Settles O20, by the cases of `step_cases`: `present` and `finish` leave the queue and the trace alone. -/
theorem queueChangesOnlyByEnqueueEvictSend : Obligations.QueueChangesOnlyByEnqueueEvictSend := by
  intro s t h notReset
  cases step_cases h with
  | idle _ eq => exact .inl (congrArg _ eq)
  | reset _ stream _ => exact absurd (congrArg List.head? stream) notReset
  | rejected _ _ _ _ _ _ eq => subst eq; exact .inl rfl
  | run _ _ _ _ _ _ _ _ case eq => subst eq; exact case.queueChange

end Sys2Proof.Machine
end

section
/-! POLL case by case: what R154's pseudocode does under the condition of each case, as an exact next state
(42_dispatch.md R150 to R173). -/

namespace Sys2Proof.Machine

/-! ### The time checks (R150, R168) -/

section
variable {s t : State}

theorem timeRefusal_of_earlier {last : Nat} (recorded : s.lastNow = some last) (earlier : s.inputs.now < last) :
    timeRefusal s = some .nonmonotonicTime :=
  if_pos (by simpa [timeGoesBack, recorded] using earlier)

theorem timeGoesBack_of_monotone (monotone : ∀ last, s.lastNow = some last → last ≤ s.inputs.now) :
    timeGoesBack s = false := by
  unfold timeGoesBack
  cases recorded : s.lastNow with
  | none => rfl
  | some last => exact decide_eq_false (Nat.not_lt.mpr (monotone last recorded))

theorem timeRefusal_of_late (monotone : ∀ last, s.lastNow = some last → last ≤ s.inputs.now)
    (late : s.cfg.maxTime < s.inputs.now + s.cfg.maxWait) : timeRefusal s = some .timeOverflow := by
  rw [timeRefusal, timeGoesBack_of_monotone monotone, timeOverflows, decide_eq_true late]; rfl

theorem execPoll_of_timeRefusal {r : Reason} (refusal : timeRefusal s = some r) :
    execPoll s = .next (refuse r s) := by
  rw [execPoll, refusal]

theorem execPoll_of_off (timely : timeRefusal s = none) (off : s.inputs.connected = false) :
    execPoll s = .next (pollDisconnected s) := by
  simp [execPoll, timely, off]

/-! ### The cases of HANDSHAKING and READY, forward -/

theorem pollHandshaking_wait (early : s.inputs.now < s.nextTime) : pollHandshaking s = .next (pollWait s) :=
  if_pos (by simpa [timerExpired] using early)

theorem pollReady_of_received {p : Packet} (rx : received s = some p) :
    pollReady s = pollPacket p (takePacket s) := by
  rw [pollReady, rx]

theorem pollReady_of_noPacket (rx : received s = none) : pollReady s = pollDispatch s := by
  rw [pollReady, rx]

theorem pollReady_of_receives {p : Packet} {rest : List Packet} (receives : Receives s p rest) :
    pollReady s = pollPacket p { s with inbox := rest } := by
  rw [pollReady_of_received (received_of_receives receives), takePacket_of_receives receives]

theorem pollPacket_long {p : Packet} (long : s.cfg.rxMaxBytes < p.length) :
    pollPacket p s = .next (refuse .rxTooLong s) :=
  if_pos long

section
variable {p : Packet} (short : p.length ≤ s.cfg.rxMaxBytes)
include short

theorem pollPacket_decoded {addr : ParamAddr} {value : Byte} (decoded : decodePacket s.cfg p = some (addr, value)) :
    pollPacket p s = .next (pollReceived addr value s) := by
  rw [pollPacket, if_neg (Nat.not_lt.mpr short), decoded]

theorem pollPacket_undecoded (undecoded : decodePacket s.cfg p = none) : pollPacket p s = pollDispatch s := by
  rw [pollPacket, if_neg (Nat.not_lt.mpr short), undecoded]

end

theorem DispatchCase.pollDispatch_eq (case : DispatchCase s t) : pollDispatch s = .next t := by
  cases case with
  | send _ _ queue due legal eq => exact eq ▸ pollDispatch_send due queue legal
  | idle nothing eq => exact eq ▸ pollDispatch_idle nothing

theorem pollAt_of_timely {ctrl : BitVec 2} (timely : timeRefusal s = none) (on : s.inputs.connected = true)
    (state : s.ctrlState = ctrl) : PollAt ctrl s :=
  ⟨timeRefusal_eq_none.mp timely, on, state⟩

/-- The converse of `execPoll_cases`: each case's condition makes the POLL take it. -/
theorem PollCase.execPoll_eq (case : PollCase s t) : execPoll s = .next t := by
  cases case with
  | badTime _ refusal eq => exact eq ▸ execPoll_of_timeRefusal refusal
  | disconnected timely off eq => exact eq ▸ execPoll_of_off timely off
  | connect timely on ctrl eq => exact eq ▸ execPoll_disconnected (pollAt_of_timely timely on ctrl)
  | wait timely on ctrl early eq =>
    exact eq ▸ (execPoll_handshaking (pollAt_of_timely timely on ctrl)).trans (pollHandshaking_wait early)
  | secondHandshake timely on ctrl due hs eq =>
    exact eq ▸ (execPoll_handshaking (pollAt_of_timely timely on ctrl)).trans
      (pollHandshaking_secondHandshake due hs)
  | editMode timely on ctrl due hs eq =>
    exact eq ▸ (execPoll_handshaking (pollAt_of_timely timely on ctrl)).trans (pollHandshaking_editMode due hs)
  | justReady timely on ctrl due hs eq =>
    exact eq ▸ (execPoll_handshaking (pollAt_of_timely timely on ctrl)).trans (pollHandshaking_justReady due hs)
  | rxTooLong timely on ctrl p rx long eq =>
    rw [execPoll_ready (pollAt_of_timely timely on ctrl), pollReady_of_received rx, eq]
    exact pollPacket_long (by simpa using long)
  | receive timely on ctrl p rx short addr value decoded eq =>
    rw [execPoll_ready (pollAt_of_timely timely on ctrl), pollReady_of_received rx, eq]
    exact pollPacket_decoded (by simpa using short) (by simpa using decoded)
  | discard timely on ctrl p rx short undecoded dispatch =>
    rw [execPoll_ready (pollAt_of_timely timely on ctrl), pollReady_of_received rx,
      pollPacket_undecoded (by simpa using short) (by simpa using undecoded)]
    exact dispatch.pollDispatch_eq
  | noPacket timely on ctrl rx dispatch =>
    rw [execPoll_ready (pollAt_of_timely timely on ctrl), pollReady_of_noPacket rx]
    exact dispatch.pollDispatch_eq

end

/-! ### Next states as record updates -/

/-- `return resp(R)` without a decoded frame (R150, R154). -/
theorem complete_pollResponse (result : PollResult) (txErr : Bool) (s : State) :
    complete (pollResponse result txErr s) s =
      { s with lastNow := some s.inputs.now, answer := pollAnswer (resultCode result).toNat txErr s.queue } := by
  rw [← response_pollResponse]; rfl

/-- `return resp(RECEIVED, a, v)` (R150, R162). -/
theorem complete_receivedResponse (addr : ParamAddr) (value : Byte) (s : State) :
    complete (receivedResponse addr value s) s =
      { s with
        lastNow := some s.inputs.now,
        answer := .response (answerWord 4 false (decide (s.queue = [])) false value addr) } := by
  rw [complete, respond, responseWord_eq_answerWord, ← isEmpty_eq]; rfl

/-- R156 as one record update, whether or not the state was DISCONNECTED already. -/
theorem pollDisconnected_eq (s : State) :
    pollDisconnected s = { s with
      ctrlState := ctrlDisconnected,
      trace := s.trace ++ (if s.ctrlState = ctrlDisconnected then [] else [.state ctrlDisconnected]),
      lastNow := some s.inputs.now,
      answer := pollAnswer 2 false s.queue } := by
  unfold pollDisconnected
  split
  case isTrue down => rw [complete_pollResponse, ← down, List.append_nil]; rfl
  case isFalse up => exact complete_pollResponse .notReady false (enterState ctrlDisconnected s)

/-- R157 as one record update: STATE comes before TX (R214). -/
theorem pollConnect_eq (s : State) :
    pollConnect s = { s with
      ctrlState := ctrlHandshaking, hsStep := 1, nextTime := s.inputs.now + s.cfg.hsDelay,
      trace := s.trace ++ [.state ctrlHandshaking, .tx handshakeFrame],
      lastNow := some s.inputs.now,
      answer := pollAnswer 2 (!s.inputs.sendOk) s.queue } := by
  unfold pollConnect
  rw [complete_pollResponse, List.append_cons]; rfl

theorem pacingInterval_eq (cfg : Config) (op : Op) :
    pacingInterval cfg op = if op = .read then cfg.readInterval else cfg.writeInterval := by
  cases op <;> rfl

/-! ### The statements, in the order of R154 -/

/-- Settles O29: R150's check is the first of POLL's checks. -/
theorem pollRefusesEarlierTime : Obligations.PollRefusesEarlierTime := by
  intro s last recorded earlier
  rw [← refuse_eq]
  exact execPoll_of_timeRefusal (timeRefusal_of_earlier recorded earlier)

/-- Settles O31: `pollDisconnected` is the four things of R156. -/
theorem pollDisconnectedGoesDown : Obligations.PollDisconnectedGoesDown := by
  intro s timely off
  rw [← pollDisconnected_eq]
  exact execPoll_of_off (timeRefusal_of_timely timely) off

/-- Settles O32: `pollConnect` is the case of DISCONNECTED. -/
theorem pollConnectStartsHandshake : Obligations.PollConnectStartsHandshake := by
  intro s down
  rw [← pollConnect_eq]
  exact execPoll_disconnected down

/-- Settles O33: the timer is compared before `hs_step` is looked at. -/
theorem pollHandshakeWaits : Obligations.PollHandshakeWaits := by
  intro s handshaking early
  calc exec .poll s = pollHandshaking s := execPoll_handshaking handshaking
    _ = .next (pollWait s) := pollHandshaking_wait early
    _ = _ := congrArg _ (complete_pollResponse .notReady false s)

/-- Settles O34: HANDSHAKE's literal is `handshakeFrame`. -/
theorem pollSendsSecondHandshake : Obligations.PollSendsSecondHandshake := by
  intro s handshaking hs due
  calc exec .poll s = pollHandshaking s := execPoll_handshaking handshaking
    _ = .next (pollSecondHandshake s) := pollHandshaking_secondHandshake due hs
    _ = _ := congrArg _ (complete_pollResponse .notReady (sendError s)
      (setHsStep 2 (loadTimer s.cfg.hsDelay (sendFrame handshakeFrame s))))

/-- Settles O35: the bytes are EDIT_CMD's frame (`encode_editCommand`). -/
theorem pollSendsEditFrame : Obligations.PollSendsEditFrame := by
  intro s handshaking hs due
  rw [← encode_editCommand]
  calc exec .poll s = pollHandshaking s := execPoll_handshaking handshaking
    _ = .next (pollEditMode s) := pollHandshaking_editMode due hs
    _ = _ := congrArg _ (complete_pollResponse .notReady (sendError s)
      (setHsStep 3 (loadTimer s.cfg.initDelay (sendFrame (encodeCommand s.cfg editCommand) s))))

/-- Settles O36: READY's receive and dispatch wait for the next POLL (R171). -/
theorem pollBecomesReady : Obligations.PollBecomesReady := by
  intro s handshaking hs due
  calc exec .poll s = pollHandshaking s := execPoll_handshaking handshaking
    _ = .next (pollJustReady s) := pollHandshaking_justReady due hs
    _ = _ := congrArg _ (complete_pollResponse .justReady false (enterState ctrlReady s))

/-- Settles O40: the size check comes before Decode and the dispatch. -/
theorem pollRefusesLongPacket : Obligations.PollRefusesLongPacket := by
  intro s p rest ready receives long
  calc exec .poll s = pollReady s := execPoll_ready ready
    _ = pollPacket p { s with inbox := rest } := pollReady_of_receives receives
    _ = .next (refuse .rxTooLong { s with inbox := rest }) := pollPacket_long long
    _ = _ := congrArg _ (refuse_eq _ _)

/-- Settles O37: a decoded packet ends the POLL before the timer and the queue are looked at. -/
theorem pollReturnsDecodedValue : Obligations.PollReturnsDecodedValue := by
  intro s p rest addr value ready receives short decoded
  calc exec .poll s = pollReady s := execPoll_ready ready
    _ = pollPacket p { s with inbox := rest } := pollReady_of_receives receives
    _ = .next (pollReceived addr value { s with inbox := rest }) :=
      pollPacket_decoded (s := { s with inbox := rest }) short decoded
    _ = _ := congrArg _ (complete_receivedResponse addr value
      (emit (.rx addr value) (loadTimer s.cfg.receiveInterval { s with inbox := rest })))

/-- Settles O38: the dispatch from the state after the receive. -/
theorem pollDispatchesOldest : Obligations.PollDispatchesOldest := by
  intro s inbox c rest ready nothing due queue legal
  rw [← pacingInterval_eq]
  calc exec .poll s = pollReady s := execPoll_ready ready
    _ = pollDispatch { s with inbox := inbox } := pollReady_nothing nothing
    _ = .next (pollSend c (setQueue rest { s with inbox := inbox })) := pollDispatch_send due queue legal
    _ = _ := congrArg _ (complete_pollResponse .idle (sendError s)
      (loadTimer (pacingInterval s.cfg c.op)
        (sendFrame (encodeCommand s.cfg c) { s with inbox := inbox, queue := rest })))

/-- Settles O39: a dispatch that is not due, or has nothing to send, is the idle answer. -/
theorem pollIdles : Obligations.PollIdles := by
  intro s inbox ready nothing idle
  calc exec .poll s = pollReady s := execPoll_ready ready
    _ = pollDispatch { s with inbox := inbox } := pollReady_nothing nothing
    _ = .next (pollIdle { s with inbox := inbox }) := pollDispatch_idle idle
    _ = _ := congrArg _ (complete_pollResponse .idle false { s with inbox := inbox })

end Sys2Proof.Machine
end

section
/-! What a POLL and a step can do to `last_now`, `next_time` and `ctrl_state`, and what RESULT tells
(10_state.md R37, 42_dispatch.md R150, R155 to R160, R166, R168). -/

namespace Sys2Proof.Machine

section
variable {s t : State}

/-! ### `last_now` (R150) -/

/-- A completed POLL records its `Now`, which R150's check let pass; any other leaves `last_now` alone. -/
def RecordsNow (s t : State) : Prop :=
  t.lastNow = s.lastNow ∨ (timeRefusal s = none ∧ t.lastNow = some s.inputs.now)

theorem DispatchCase.lastNow_eq (case : DispatchCase s t) : t.lastNow = some s.inputs.now := by
  cases case with
  | send _ _ _ _ _ eq => subst eq; rfl
  | idle _ eq => subst eq; rfl

theorem pollDisconnected_lastNow (s : State) : (pollDisconnected s).lastNow = some s.inputs.now := by
  rw [pollDisconnected_eq]

theorem PollCase.recordsNow (case : PollCase s t) : RecordsNow s t := by
  cases case with
  | badTime _ _ eq => subst eq; exact .inl rfl
  | disconnected timely _ eq => subst eq; exact .inr ⟨timely, pollDisconnected_lastNow s⟩
  | connect timely _ _ eq => subst eq; exact .inr ⟨timely, rfl⟩
  | wait timely _ _ _ eq => subst eq; exact .inr ⟨timely, rfl⟩
  | secondHandshake timely _ _ _ _ eq => subst eq; exact .inr ⟨timely, rfl⟩
  | editMode timely _ _ _ _ eq => subst eq; exact .inr ⟨timely, rfl⟩
  | justReady timely _ _ _ _ eq => subst eq; exact .inr ⟨timely, rfl⟩
  | rxTooLong _ _ _ _ _ _ eq => subst eq; exact .inl (takePacket_lastNow s)
  | receive timely _ _ _ _ _ _ _ _ eq =>
    subst eq; exact .inr ⟨timely, by simp [pollReceived]⟩
  | discard timely _ _ _ _ _ _ dispatch => exact .inr ⟨timely, by simpa using dispatch.lastNow_eq⟩
  | noPacket timely _ _ _ dispatch => exact .inr ⟨timely, dispatch.lastNow_eq⟩

theorem ExecCase.recordsNow {i : Instr} (case : ExecCase i s t) : RecordsNow s t := by
  by_cases hi : i = .poll
  · subst hi; exact case.of_poll.recordsNow
  · obtain ⟨⟨-, -, -, -, lastNow⟩, -⟩ := case.sameController_sameOutside_sendsNothing hi
    exact .inl lastNow

theorem RecordsNow.le {a : Nat} (records : RecordsNow s t) (recorded : s.lastNow = some a) :
    ∃ b, t.lastNow = some b ∧ a ≤ b := by
  obtain kept | ⟨timely, now⟩ := records
  · exact ⟨a, kept.trans recorded, le_rfl⟩
  · exact ⟨_, now, (timeRefusal_eq_none.mp timely).1 a recorded⟩

/-! ### `next_time` (R168) -/

/-- The intervals POLL loads the timer with (R154). -/
def loadIntervals (cfg : Config) : List Nat :=
  [cfg.hsDelay, cfg.initDelay, cfg.receiveInterval, cfg.readInterval, cfg.writeInterval]

theorem le_maxWait_of_mem_loadIntervals {cfg : Config} {d : Nat} (mem : d ∈ loadIntervals cfg) :
    d ≤ cfg.maxWait := by
  obtain ⟨hs, init, receive, read, write⟩ := interval_le_maxWait cfg
  simp only [loadIntervals, List.mem_cons, List.not_mem_nil, or_false] at mem
  rcases mem with rfl | rfl | rfl | rfl | rfl <;> assumption

theorem pacingInterval_mem_loadIntervals (cfg : Config) (op : Op) : pacingInterval cfg op ∈ loadIntervals cfg := by
  cases op <;> simp [pacingInterval, loadIntervals]

/-- `next_time` is unchanged, or was loaded with an interval after an accepted `Now`. -/
def LoadsTimer (s t : State) : Prop :=
  t.nextTime = s.nextTime ∨
    (timeRefusal s = none ∧ ∃ d ∈ loadIntervals s.cfg, t.nextTime = s.inputs.now + d)

theorem DispatchCase.loadsTimer (case : DispatchCase s t) (timely : timeRefusal s = none) : LoadsTimer s t := by
  cases case with
  | send c _ _ _ _ eq =>
    subst eq; exact .inr ⟨timely, _, pacingInterval_mem_loadIntervals s.cfg c.op, rfl⟩
  | idle _ eq => subst eq; exact .inl rfl

theorem PollCase.loadsTimer (case : PollCase s t) : LoadsTimer s t := by
  cases case with
  | badTime _ _ eq => subst eq; exact .inl rfl
  | disconnected _ _ eq => subst eq; rw [pollDisconnected_eq]; exact .inl rfl
  | connect timely _ _ eq => subst eq; exact .inr ⟨timely, s.cfg.hsDelay, by simp [loadIntervals], rfl⟩
  | wait _ _ _ _ eq => subst eq; exact .inl rfl
  | secondHandshake timely _ _ _ _ eq =>
    subst eq; exact .inr ⟨timely, s.cfg.hsDelay, by simp [loadIntervals], rfl⟩
  | editMode timely _ _ _ _ eq =>
    subst eq; exact .inr ⟨timely, s.cfg.initDelay, by simp [loadIntervals], rfl⟩
  | justReady _ _ _ _ _ eq => subst eq; exact .inl rfl
  | rxTooLong _ _ _ _ _ _ eq => subst eq; exact .inl (takePacket_nextTime s)
  | receive timely _ _ _ _ _ _ _ _ eq =>
    subst eq; exact .inr ⟨timely, s.cfg.receiveInterval, by simp [loadIntervals], by simp [pollReceived]⟩
  | discard timely _ _ _ _ _ _ dispatch =>
    simpa [LoadsTimer] using dispatch.loadsTimer ((timeRefusal_takePacket s).trans timely)
  | noPacket timely _ _ _ dispatch => exact dispatch.loadsTimer timely

theorem ExecCase.loadsTimer {i : Instr} (case : ExecCase i s t) : LoadsTimer s t := by
  by_cases hi : i = .poll
  · subst hi; exact case.of_poll.loadsTimer
  · obtain ⟨⟨-, -, -, nextTime, -⟩, -⟩ := case.sameController_sameOutside_sendsNothing hi
    exact .inl nextTime

/-! ### `ctrl_state` (R155 to R160, R166) -/

/-- Every way `ctrl_state` moves: it falls to DISCONNECTED where `fall` holds, and HANDSHAKING is entered from
DISCONNECTED where `rise` holds. -/
inductive CtrlMove (fall rise : Prop) (s t : State) : Prop where
  | stays (eq : t.ctrlState = s.ctrlState)
  | falls (why : fall) (down : t.ctrlState = ctrlDisconnected)
  | rises (why : rise) (down : s.ctrlState = ctrlDisconnected) (up : t.ctrlState = ctrlHandshaking)
  | settles (up : s.ctrlState = ctrlHandshaking) (ready : t.ctrlState = ctrlReady)

theorem DispatchCase.ctrlState_eq (case : DispatchCase s t) : t.ctrlState = s.ctrlState := by
  cases case with
  | send _ _ _ _ _ eq => subst eq; rfl
  | idle _ eq => subst eq; rfl

theorem pollDisconnected_ctrlState (s : State) : (pollDisconnected s).ctrlState = ctrlDisconnected := by
  rw [pollDisconnected_eq]

theorem PollCase.ctrlMove (case : PollCase s t) :
    CtrlMove (s.inputs.connected = false) (s.inputs.connected = true) s t := by
  cases case with
  | badTime _ _ eq => subst eq; exact .stays rfl
  | disconnected _ off eq => subst eq; exact .falls off (pollDisconnected_ctrlState s)
  | connect _ on ctrl eq => subst eq; exact .rises on ctrl rfl
  | wait _ _ _ _ eq => subst eq; exact .stays rfl
  | secondHandshake _ _ _ _ _ eq => subst eq; exact .stays rfl
  | editMode _ _ _ _ _ eq => subst eq; exact .stays rfl
  | justReady _ _ ctrl _ _ eq => subst eq; exact .settles ctrl rfl
  | rxTooLong _ _ _ _ _ _ eq => subst eq; exact .stays (takePacket_ctrlState s)
  | receive _ _ _ _ _ _ _ _ _ eq => subst eq; exact .stays (takePacket_ctrlState s)
  | discard _ _ _ _ _ _ _ dispatch => exact .stays (dispatch.ctrlState_eq.trans (takePacket_ctrlState s))
  | noPacket _ _ _ _ dispatch => exact .stays dispatch.ctrlState_eq

/-- R166, R220: a step moves `ctrl_state` by a reset pulse or by a POLL. -/
theorem StepCase.ctrlMove (case : StepCase s t) :
    CtrlMove (s.stream.head? = some .reset ∨ PollsNext false s) (PollsNext true s) s t := by
  cases case with
  | idle _ eq => exact .stays (congrArg _ eq)
  | reset _ stream eq => subst eq; exact .falls (.inl (congrArg List.head? stream)) rfl
  | rejected _ _ _ _ _ _ eq => subst eq; exact .stays rfl
  | run code inputs arrivals rest i stream decoded u case eq =>
    subst eq
    by_cases hi : i = .poll
    · subst hi
      have polls {connected : Bool} (sampled : inputs.connected = connected) : PollsNext connected s :=
        ⟨code, inputs, arrivals, rest, stream, decoded, sampled⟩
      cases case.of_poll.ctrlMove with
      | stays eq => exact .stays eq
      | falls off down => exact .falls (.inr (polls off)) down
      | rises on down up => exact .rises (polls on) down up
      | settles up ready => exact .settles up ready
    · obtain ⟨⟨-, ctrl, -⟩, -⟩ := case.sameController_sameOutside_sendsNothing hi
      exact .stays ctrl

/-! ### RESULT (R155) -/

/-- If the state's answer is a response, its RESULT is this one. -/
def Answers (result : PollResult) (t : State) : Prop :=
  ∀ w, t.answer = .response w → w.toNat % 8 = (resultCode result).toNat

theorem responseWord_toNat_mod_eight (r : Response) :
    (responseWord r).toNat % 8 = (resultCode r.result).toNat := by
  have result := (resultCode r.result).isLt
  rw [responseWord_eq_answerWord, answerWord, BitVec.toNat_ofNat]
  omega

theorem answers_complete (r : Response) (s : State) : Answers r.result (complete r s) := by
  rintro _ ⟨⟩
  exact responseWord_toNat_mod_eight r

/-- R155's table: RESULT against `ctrl_state` before and after. -/
inductive ResultCase (s t : State) : Prop where
  | refused (r : Reason) (answer : t.answer = .refused r)
  | notReady (answers : Answers .notReady t) (ctrl : t.ctrlState = ctrlDisconnected ∨ t.ctrlState = ctrlHandshaking)
  | justReady (answers : Answers .justReady t) (up : s.ctrlState = ctrlHandshaking) (ready : t.ctrlState = ctrlReady)
  | ready (result : PollResult) (answers : Answers result t) (readyResult : result = .idle ∨ result = .received)
      (was : s.ctrlState = ctrlReady) (is : t.ctrlState = ctrlReady)

theorem DispatchCase.answers_idle (case : DispatchCase s t) : Answers .idle t := by
  cases case with
  | send _ _ _ _ _ eq => subst eq; exact answers_complete _ _
  | idle _ eq => subst eq; exact answers_complete _ _

theorem answers_pollDisconnected (s : State) : Answers .notReady (pollDisconnected s) :=
  answers_complete _ _

theorem PollCase.resultCase (case : PollCase s t) : ResultCase s t := by
  cases case with
  | badTime r _ eq => subst eq; exact .refused r rfl
  | disconnected _ _ eq =>
    subst eq; exact .notReady (answers_pollDisconnected s) (.inl (pollDisconnected_ctrlState s))
  | connect _ _ _ eq => subst eq; exact .notReady (answers_complete _ _) (.inr rfl)
  | wait _ _ ctrl _ eq => subst eq; exact .notReady (answers_complete _ _) (.inr ctrl)
  | secondHandshake _ _ ctrl _ _ eq => subst eq; exact .notReady (answers_complete _ _) (.inr ctrl)
  | editMode _ _ ctrl _ _ eq => subst eq; exact .notReady (answers_complete _ _) (.inr ctrl)
  | justReady _ _ ctrl _ _ eq => subst eq; exact .justReady (answers_complete _ _) ctrl rfl
  | rxTooLong _ _ _ _ _ _ eq => subst eq; exact .refused .rxTooLong rfl
  | receive _ _ ctrl _ _ _ _ _ _ eq =>
    subst eq
    exact .ready .received (answers_complete _ _) (.inr rfl) ctrl ((takePacket_ctrlState s).trans ctrl)
  | discard _ _ ctrl _ _ _ _ dispatch =>
    have is := dispatch.ctrlState_eq.trans ((takePacket_ctrlState s).trans ctrl)
    exact .ready .idle dispatch.answers_idle (.inl rfl) ctrl is
  | noPacket _ _ ctrl _ dispatch =>
    exact .ready .idle dispatch.answers_idle (.inl rfl) ctrl (dispatch.ctrlState_eq.trans ctrl)

end

/-! ### The statements -/

/-- Settles O18: `present` and `finish` leave `last_now` alone, and an instruction records only an accepted `Now`. -/
theorem lastNowNeverGoesBack : Obligations.LastNowNeverGoesBack := by
  intro s t a h notReset recorded
  have same (eq : t.lastNow = s.lastNow) : ∃ b, t.lastNow = some b ∧ a ≤ b := ⟨a, eq.trans recorded, le_rfl⟩
  cases step_cases h with
  | idle _ eq => exact same (congrArg _ eq)
  | reset _ stream _ => exact absurd (congrArg List.head? stream) notReset
  | rejected _ _ _ _ _ _ eq => subst eq; exact same rfl
  | run _ _ _ _ _ _ _ _ case eq => subst eq; exact case.recordsNow.le recorded

/-- Settles O22, by the moves of `StepCase.ctrlMove`: none leads from READY to HANDSHAKING. -/
theorem noReadyToHandshaking : Obligations.NoReadyToHandshaking := by
  intro s t h
  cases (step_cases h).ctrlMove with
  | stays eq => exact ⟨fun up => .inl (eq ▸ up), fun ready => .inl (eq.trans ready)⟩
  | falls why down =>
    exact ⟨fun up => absurd (down.symm.trans up) ctrlDisconnected_ne_handshaking, fun _ => .inr ⟨down, why⟩⟩
  | rises why down _ =>
    exact ⟨fun _ => .inr ⟨down, why⟩, fun ready => absurd (down.symm.trans ready) (by decide)⟩
  | settles up ready => exact ⟨fun _ => .inl up, fun _ => .inl ready⟩

/-- Settles O30: R168's check refuses the late POLL, and leaves room for every interval the others load. -/
theorem timerLoadsNeverWrap : Obligations.TimerLoadsNeverWrap := by
  refine ⟨fun s monotone late => ?_, fun i s t h changed => ?_⟩
  · rw [← refuse_eq]
    exact execPoll_of_timeRefusal (timeRefusal_of_late monotone late)
  · obtain kept | ⟨timely, d, mem, loaded⟩ := (exec_cases h).loadsTimer
    · exact absurd kept changed
    · exact ⟨loaded ▸ timer_fits timely (le_maxWait_of_mem_loadIntervals mem), d, mem, loaded⟩

/-- Settles O42, by R155's table. -/
theorem pollResultTellsState : Obligations.PollResultTellsState := by
  intro s t w h answer
  cases (exec_cases h).of_poll.resultCase with
  | refused _ refusal => exact Answer.noConfusion (refusal.symm.trans answer)
  | notReady answers ctrl => exact .inl ⟨answers w answer, ctrl⟩
  | justReady answers up ready => exact .inr (.inl ⟨answers w answer, up, ready⟩)
  | ready result answers readyResult was is =>
    refine .inr (.inr ⟨?_, was, is⟩)
    obtain rfl | rfl := readyResult
    · exact .inl (answers w answer)
    · exact .inr (answers w answer)

end Sys2Proof.Machine
end

section
/-! What a POLL sends and takes, and what TX_ERR tells of it (42_dispatch.md R153, R169, R170, R172). -/

namespace Sys2Proof.Machine

/-! ### TX_ERR's bit (R72) -/

theorem responseWord_getLsbD_three (r : Response) : (responseWord r).getLsbD 3 = r.txErr := by
  simp only [responseWord, BitVec.getLsbD_append]
  simp

/-- TX_ERR has no other bit than bit 3. -/
theorem responseWord_getLsbD_of_ne_three (r : Response) (txErr : Bool) {k : Nat} (other : k ≠ 3) :
    (responseWord { r with txErr := txErr }).getLsbD k = (responseWord r).getLsbD k := by
  simp only [responseWord, BitVec.getLsbD_append, BitVec.getLsbD_ofBool]
  by_cases result : k < 3
  · simp [result]
  · simp [show k - 3 ≠ 0 by omega]

section
variable {s t : State}

/-- If the state's answer is a response, its TX_ERR is this one. -/
def TellsTxErr (txErr : Bool) (t : State) : Prop := ∀ w, t.answer = .response w → w.getLsbD 3 = txErr

theorem tellsTxErr_complete (r : Response) (s : State) : TellsTxErr r.txErr (complete r s) := by
  rintro _ ⟨⟩
  exact responseWord_getLsbD_three r

theorem tellsTxErr_refuse (txErr : Bool) (r : Reason) (s : State) : TellsTxErr txErr (refuse r s) := nofun

/-! ### Frames sent (R153, R169, R172) -/

/-- A POLL sends no frame, and TX_ERR is 0, or it sends one, and TX_ERR is what SendFrame answered. -/
inductive PollSends (s t : State) : Prop where
  | nothing (sent : SendsNothing s t) (txErr : TellsTxErr false t)
  | one (events : List Event) (frame : Frame) (trace : t.trace = s.trace ++ events)
      (sent : txFrames events = [frame]) (txErr : TellsTxErr (sendError s) t)

theorem DispatchCase.pollSends (case : DispatchCase s t) : PollSends s t := by
  cases case with
  | send _ _ _ _ _ eq => subst eq; exact .one [.tx _] _ rfl rfl (tellsTxErr_complete _ _)
  | idle _ eq => subst eq; exact .nothing (sendsNothing_of_trace_eq rfl) (tellsTxErr_complete _ _)

/-- Sending sees nothing of the transport's packets. -/
theorem PollSends.of_takePacket (sends : PollSends (takePacket s) t) : PollSends s t := by
  cases sends with
  | nothing sent txErr => exact .nothing (by simpa [SendsNothing] using sent) txErr
  | one events frame trace sent txErr =>
    exact .one events frame (by simpa using trace) sent (by simpa [sendError] using txErr)

/-- Each of R154's cases hands at most one frame to SendFrame. -/
theorem PollCase.pollSends (case : PollCase s t) : PollSends s t := by
  cases case with
  | badTime r _ eq => subst eq; exact .nothing (sendsNothing_of_trace_eq rfl) (tellsTxErr_refuse false r s)
  | disconnected _ _ eq => subst eq; exact .nothing (sendsNothing_pollDisconnected s) (tellsTxErr_complete _ _)
  | connect _ _ _ eq =>
    subst eq
    exact .one [.state ctrlHandshaking, .tx handshakeFrame] _ (List.append_assoc ..) rfl (tellsTxErr_complete _ _)
  | wait _ _ _ _ eq => subst eq; exact .nothing (sendsNothing_of_trace_eq rfl) (tellsTxErr_complete _ _)
  | secondHandshake _ _ _ _ _ eq => subst eq; exact .one [.tx _] _ rfl rfl (tellsTxErr_complete _ _)
  | editMode _ _ _ _ _ eq => subst eq; exact .one [.tx _] _ rfl rfl (tellsTxErr_complete _ _)
  | justReady _ _ _ _ _ eq => subst eq; exact .nothing ⟨[.state ctrlReady], rfl, rfl⟩ (tellsTxErr_complete _ _)
  | rxTooLong _ _ _ _ _ _ eq =>
    subst eq; exact .nothing (sendsNothing_of_trace_eq (takePacket_trace s)) (tellsTxErr_refuse _ _ _)
  | receive _ _ _ _ _ _ addr value _ eq =>
    subst eq
    exact .nothing ⟨[.rx addr value], congrArg (· ++ _) (takePacket_trace s), rfl⟩ (tellsTxErr_complete _ _)
  | discard _ _ _ _ _ _ _ dispatch => exact dispatch.pollSends.of_takePacket
  | noPacket _ _ _ _ dispatch => exact dispatch.pollSends

theorem PollSends.length_txFrames_le_one (sends : PollSends s t) :
    ∃ es, t.trace = s.trace ++ es ∧ (txFrames es).length ≤ 1 := by
  cases sends with
  | nothing sent _ =>
    obtain ⟨es, trace, none⟩ := sent
    exact ⟨es, trace, by simp [none]⟩
  | one events frame trace sent _ => exact ⟨events, trace, by simp [sent]⟩

theorem PollSends.txErr_eq (sends : PollSends s t) {w : ResponseWord} {es : List Event}
    (answer : t.answer = .response w) (trace : t.trace = s.trace ++ es) :
    w.getLsbD 3 = (decide (txFrames es ≠ []) && !s.inputs.sendOk) := by
  cases sends with
  | nothing sent txErr =>
    obtain ⟨es', trace', none⟩ := sent
    obtain rfl : es = es' := List.append_cancel_left (trace.symm.trans trace')
    rw [txErr w answer]; simp [none]
  | one es' frame trace' sent txErr =>
    obtain rfl : es = es' := List.append_cancel_left (trace.symm.trans trace')
    rw [txErr w answer]; simp [sent, sendError]

/-! ### Packets taken (R59, R170) -/

theorem inbox_eq_cons_takePacket {p : Packet} (rx : received s = some p) : s.inbox = p :: (takePacket s).inbox := by
  obtain ⟨-, rest, inbox, took⟩ := received_eq_some rx
  rw [took, inbox]

theorem DispatchCase.inbox_eq (case : DispatchCase s t) : t.inbox = s.inbox := by
  cases case with
  | send _ _ _ _ _ eq => subst eq; rfl
  | idle _ eq => subst eq; rfl

/-- Only READY's receive takes a packet (R171), whatever the rest of the POLL does with it. -/
theorem PollCase.inbox_cases (case : PollCase s t) :
    t.inbox = s.inbox ∨ (s.ctrlState = ctrlReady ∧ ∃ p, s.inbox = p :: t.inbox) := by
  cases case with
  | badTime _ _ eq => subst eq; exact .inl rfl
  | disconnected _ _ eq => subst eq; rw [pollDisconnected_eq]; exact .inl rfl
  | connect _ _ _ eq => subst eq; exact .inl rfl
  | wait _ _ _ _ eq => subst eq; exact .inl rfl
  | secondHandshake _ _ _ _ _ eq => subst eq; exact .inl rfl
  | editMode _ _ _ _ _ eq => subst eq; exact .inl rfl
  | justReady _ _ _ _ _ eq => subst eq; exact .inl rfl
  | rxTooLong _ _ ctrl p rx _ eq => subst eq; exact .inr ⟨ctrl, p, inbox_eq_cons_takePacket rx⟩
  | receive _ _ ctrl p rx _ _ _ _ eq => subst eq; exact .inr ⟨ctrl, p, inbox_eq_cons_takePacket rx⟩
  | discard _ _ ctrl p rx _ _ dispatch =>
    exact .inr ⟨ctrl, p, dispatch.inbox_eq ▸ inbox_eq_cons_takePacket rx⟩
  | noPacket _ _ _ _ dispatch => exact .inl dispatch.inbox_eq

/-! ### The same POLL with another answer of SendFrame (R169) -/

/-- The state with another answer of SendFrame (R153). -/
def withSendOk (ok : Bool) (s : State) : State := { s with inputs := { s.inputs with sendOk := ok } }

/-- The same refusal, or the same response word but for bit 3. -/
def SameButTxErr (a b : Answer) : Prop :=
  (∃ r, a = .refused r ∧ b = .refused r) ∨
    ∃ w w', a = .response w ∧ b = .response w' ∧ ∀ k, k ≠ 3 → w'.getLsbD k = w.getLsbD k

theorem sameButTxErr_refused (r : Reason) : SameButTxErr (.refused r) (.refused r) := .inl ⟨r, rfl, rfl⟩

theorem sameButTxErr_response (r : Response) (txErr : Bool) :
    SameButTxErr (.response (responseWord r)) (.response (responseWord { r with txErr := txErr })) :=
  .inr ⟨_, _, rfl, rfl, fun _ other => responseWord_getLsbD_of_ne_three r txErr other⟩

theorem takePacket_withSendOk (ok : Bool) (s : State) :
    takePacket (withSendOk ok s) = withSendOk ok (takePacket s) := by
  unfold takePacket withSendOk; split <;> rfl

theorem pollDisconnected_withSendOk (ok : Bool) (s : State) :
    pollDisconnected (withSendOk ok s) = withSendOk ok (pollDisconnected s) := by
  simp only [pollDisconnected_eq]; rfl

theorem DispatchCase.withSendOk (case : DispatchCase s t) (ok : Bool) :
    ∃ a, DispatchCase (withSendOk ok s) { withSendOk ok t with answer := a } ∧ SameButTxErr t.answer a := by
  cases case with
  | send c rest queue due legal eq =>
    subst eq; exact ⟨_, .send c rest queue due legal rfl, sameButTxErr_response _ _⟩
  | idle nothing eq => subst eq; exact ⟨_, .idle nothing rfl, sameButTxErr_response _ _⟩

/-- No condition of R154 reads SendFrame's answer, so the POLL takes the same case. -/
theorem PollCase.withSendOk (case : PollCase s t) (ok : Bool) :
    ∃ a, PollCase (withSendOk ok s) { withSendOk ok t with answer := a } ∧ SameButTxErr t.answer a := by
  cases case with
  | badTime r refusal eq => subst eq; exact ⟨_, .badTime r refusal rfl, sameButTxErr_refused r⟩
  | disconnected timely off eq =>
    subst eq
    exact ⟨_, .disconnected timely off (pollDisconnected_withSendOk ok s).symm, sameButTxErr_response _ false⟩
  | connect timely on ctrl eq =>
    subst eq; exact ⟨_, .connect timely on ctrl rfl, sameButTxErr_response _ _⟩
  | wait timely on ctrl early eq =>
    subst eq; exact ⟨_, .wait timely on ctrl early rfl, sameButTxErr_response _ _⟩
  | secondHandshake timely on ctrl due hs eq =>
    subst eq; exact ⟨_, .secondHandshake timely on ctrl due hs rfl, sameButTxErr_response _ _⟩
  | editMode timely on ctrl due hs eq =>
    subst eq; exact ⟨_, .editMode timely on ctrl due hs rfl, sameButTxErr_response _ _⟩
  | justReady timely on ctrl due hs eq =>
    subst eq; exact ⟨_, .justReady timely on ctrl due hs rfl, sameButTxErr_response _ _⟩
  | rxTooLong timely on ctrl p rx long eq =>
    subst eq
    exact ⟨_, .rxTooLong timely on ctrl p rx long (by rw [takePacket_withSendOk]; rfl), sameButTxErr_refused _⟩
  | receive timely on ctrl p rx short addr value decoded eq =>
    subst eq
    exact ⟨_, .receive timely on ctrl p rx short addr value decoded (by rw [takePacket_withSendOk]; rfl),
      sameButTxErr_response _ false⟩
  | discard timely on ctrl p rx short undecoded dispatch =>
    obtain ⟨a, twin, same⟩ := dispatch.withSendOk ok
    rw [← takePacket_withSendOk] at twin
    exact ⟨a, .discard timely on ctrl p rx short undecoded twin, same⟩
  | noPacket timely on ctrl rx dispatch =>
    obtain ⟨a, twin, same⟩ := dispatch.withSendOk ok
    exact ⟨a, .noPacket timely on ctrl rx twin, same⟩

end

/-! ### The statements -/

/-- Settles O43: one frame by `PollCase.pollSends`, one packet by `PollCase.inbox_cases`. -/
theorem pollSendsAndTakesAtMostOne : Obligations.PollSendsAndTakesAtMostOne := by
  intro s t h
  have case := (exec_cases h).of_poll
  exact ⟨case.pollSends.length_txFrames_le_one, case.inbox_cases⟩

/-- Settles O45: the POLL takes the same case with the other answer, and TX_ERR is 1 only by a failed send. -/
theorem sendFailureShowsOnlyInTxErr : Obligations.SendFailureShowsOnlyInTxErr := by
  intro s t ok h
  have case := (exec_cases h).of_poll
  obtain ⟨a, twin, same⟩ := case.withSendOk ok
  exact ⟨⟨a, twin.execPoll_eq, same⟩, fun _ _ answer trace => case.pollSends.txErr_eq answer trace⟩

end Sys2Proof.Machine
end

section
/-! Refusals and what every step keeps: the sticky mark, the hardware state of a refused request, the trace, and the
state of an idle block (60_exceptions.md R191, R193, R197, R208, R214). -/

namespace Sys2Proof.Machine

section
variable {s t : State}

/-! ### Refusals (R191, R193, R197) -/

/-- From `s` to `t` hardware state, `last_now` and trace are unchanged, and the mark says `r` if it said nothing
(R191, R197). -/
def SetsOnlyMark (r : Reason) (s t : State) : Prop :=
  SameHardware s t ∧ t.lastNow = s.lastNow ∧ t.trace = s.trace ∧ t.refused = markAfter r s

/-- An operation is refused and sets only the mark, or it is not refused and leaves the mark alone. -/
inductive RefusalCase (s t : State) : Prop where
  | refused (r : Reason) (answer : t.answer = .refused r) (only : SetsOnlyMark r s t)
  | notRefused (answer : ∀ r, t.answer ≠ .refused r) (mark : t.refused = s.refused)

theorem refusalCase_refuse (r : Reason) (s : State) : RefusalCase s (refuse r s) :=
  .refused r rfl ⟨⟨rfl, rfl, rfl, rfl, rfl⟩, rfl, rfl, firstReason_eq_markAfter r s⟩

theorem refusalCase_respond (r : Response) {u : State} (mark : u.refused = s.refused) :
    RefusalCase s (respond r u) :=
  .notRefused nofun mark

theorem refusalCase_complete (r : Response) {u : State} (mark : u.refused = s.refused) :
    RefusalCase s (complete r u) :=
  refusalCase_respond r mark

theorem refusalCase_pollDisconnected (s : State) : RefusalCase s (pollDisconnected s) :=
  refusalCase_complete _ (by split <;> rfl)

theorem refusalCase_enqueueAnswer (c : Command) (s : State) : RefusalCase s (enqueueAnswer c s) :=
  refusalCase_respond _ (by rw [enqueue_eq])

/-- The transport's packets are no hardware state (R34). -/
theorem RefusalCase.of_takePacket (case : RefusalCase (takePacket s) t) : RefusalCase s t := by
  cases case with
  | refused r answer only => exact .refused r answer (by simpa [SetsOnlyMark, SameHardware, markAfter] using only)
  | notRefused answer mark => exact .notRefused answer (by simpa using mark)

theorem DispatchCase.refusalCase (case : DispatchCase s t) : RefusalCase s t := by
  cases case with
  | send _ _ _ _ _ eq => subst eq; exact refusalCase_complete _ rfl
  | idle _ eq => subst eq; exact refusalCase_complete _ rfl

/-- Of R154's cases the two refusals alone write the mark (R150, R152, R168). -/
theorem PollCase.refusalCase (case : PollCase s t) : RefusalCase s t := by
  cases case with
  | badTime r _ eq => subst eq; exact refusalCase_refuse r s
  | disconnected _ _ eq => subst eq; exact refusalCase_pollDisconnected s
  | connect _ _ _ eq => subst eq; exact refusalCase_complete _ rfl
  | wait _ _ _ _ eq => subst eq; exact refusalCase_complete _ rfl
  | secondHandshake _ _ _ _ _ eq => subst eq; exact refusalCase_complete _ rfl
  | editMode _ _ _ _ _ eq => subst eq; exact refusalCase_complete _ rfl
  | justReady _ _ _ _ _ eq => subst eq; exact refusalCase_complete _ rfl
  | rxTooLong _ _ _ _ _ _ eq => subst eq; exact (refusalCase_refuse .rxTooLong _).of_takePacket
  | receive _ _ _ _ _ _ _ _ _ eq => subst eq; exact refusalCase_complete _ (takePacket_refused s)
  | discard _ _ _ _ _ _ _ dispatch => exact dispatch.refusalCase.of_takePacket
  | noPacket _ _ _ _ dispatch => exact dispatch.refusalCase

/-- An operation starts without an answer, so a codec instruction that is carried out is not answered as refused. -/
theorem ExecCase.refusalCase {i : Instr} (case : ExecCase i s t) (unanswered : s.answer = .none) : RefusalCase s t := by
  have notRefused (r : Reason) (answer : s.answer = .refused r) : False :=
    Answer.noConfusion (unanswered.symm.trans answer)
  cases case with
  | poll _ case => exact case.refusalCase
  | enqueue c _ eq => subst eq; exact refusalCase_enqueueAnswer c s
  | query _ eq => subst eq; exact refusalCase_respond _ rfl
  | refusal r _ _ eq => subst eq; exact refusalCase_refuse r s
  | frame _ _ eq => subst eq; exact .notRefused notRefused rfl
  | group _ _ _ _ _ _ _ eq => subst eq; exact .notRefused notRefused rfl

/-- What an operation starts with beside the state before it is no hardware state (R32, R34). -/
theorem RefusalCase.of_present {inputs : Inputs} {arrivals : List Packet} {rest : List Stimulus}
    (case : RefusalCase (present inputs arrivals rest s) t) : RefusalCase s t := by
  cases case with
  | refused r answer only => exact .refused r answer only
  | notRefused answer mark => exact .notRefused answer mark

/-- The end of an operation neither refuses it nor takes a refusal back. -/
theorem RefusalCase.finish (case : RefusalCase s t) (code : Encoded) : RefusalCase s (finish code t) := by
  cases case with
  | refused r answer only => exact .refused r ((operationAnswer_eq_refused t code).mpr answer) only
  | notRefused answer mark =>
    exact .notRefused (fun r refused => answer r ((operationAnswer_eq_refused t code).mp refused)) mark

/-- A step that is not idle; an idle one leaves the answer of the step before it standing. -/
theorem StepCase.refusalCase (case : StepCase s t) (busy : s.stream ≠ []) : RefusalCase s t := by
  cases case with
  | idle stream _ => exact absurd stream busy
  | reset _ _ eq => subst eq; exact .notRefused nofun rfl
  | rejected _ _ _ _ _ _ eq => subst eq; exact (refusalCase_refuse .reservedBits _).of_present
  | run code _ _ _ _ _ _ _ case eq => subst eq; exact (case.refusalCase rfl).of_present.finish code

theorem RefusalCase.refused_eq_some (case : RefusalCase s t) {r : Reason} (marked : s.refused = some r) :
    t.refused = some r := by
  cases case with
  | refused _ _ only =>
    obtain ⟨-, -, -, mark⟩ := only
    rw [mark, ← firstReason_eq_markAfter, marked, firstReason_of_some]
  | notRefused _ mark => exact mark.trans marked

/-! ### The trace (R214) -/

theorem ExecCase.trace_prefix {i : Instr} (case : ExecCase i s t) : s.trace <+: t.trace := by
  by_cases poll : i = .poll
  · subst poll
    obtain ⟨es, trace, -⟩ := case.of_poll.pollSends.length_txFrames_le_one
    exact ⟨es, trace.symm⟩
  · obtain ⟨-, -, es, trace, -⟩ := case.sameController_sameOutside_sendsNothing poll
    exact ⟨es, trace.symm⟩

end

/-! ### The statements -/

/-- Settles O9, by `step_of_idle`. -/
theorem idleStepChangesNothing : Obligations.IdleStepChangesNothing :=
  fun _ => step_of_idle

/-- Settles O15: an idle step changes nothing, and in any other only a refusal writes the mark, where none was set. -/
theorem refusalMarkIsSticky : Obligations.RefusalMarkIsSticky := by
  intro s t r h marked
  obtain idle | busy := eq_or_ne s.stream []
  · cases (step_of_idle idle).symm.trans h
    exact marked
  · exact ((step_cases h).refusalCase busy).refused_eq_some marked

/-- Settles O16, by the cases of `StepCase.refusalCase`. -/
theorem refusalKeepsHardwareState : Obligations.RefusalKeepsHardwareState := by
  intro s t r busy h answer
  cases (step_cases h).refusalCase busy with
  | refused r' answer' only =>
    cases answer'.symm.trans answer
    exact only
  | notRefused notRefused _ => exact absurd answer (notRefused r)

/-- Settles O17: every instruction appends, and no other step writes the trace, a reset pulse included (R221). -/
theorem traceOnlyGrows : Obligations.TraceOnlyGrows := by
  intro s t h
  cases step_cases h with
  | idle _ eq => rw [eq]
  | reset _ _ eq => subst eq; exact List.prefix_rfl
  | rejected _ _ _ _ _ _ eq => subst eq; exact List.prefix_rfl
  | run _ _ _ _ _ _ _ _ case eq => subst eq; exact case.trace_prefix

end Sys2Proof.Machine
end

section
/-! The reset pulse (70_reset_and_hazards.md R220, R221). -/

namespace Sys2Proof.Machine

/-- Settles O10: the step is `hardReset` with the pulse taken from the stream, read field by field. -/
theorem resetPulseWritesResetValues : Obligations.ResetPulseWritesResetValues :=
  fun s rest stream => ⟨hardReset { s with stream := rest }, step_of_reset stream,
    hardReset_ctrlState _, hardReset_hsStep _, hardReset_nextTime _, hardReset_queue _, hardReset_lastNow _,
    hardReset_cfg _, hardReset_refused _, hardReset_trace _, hardReset_inbox _⟩

end Sys2Proof.Machine
end
